-- ==== Sys2Proof/Word.lean ====
section
/-! DEFINITION. The words of the VA-208: bytes, host halfwords, local words and addresses (00_scope, section 7). -/

namespace Sys2Proof

/-- A byte of either bus. -/
abbrev Byte := BitVec 8

/-- A host halfword, HD[15:0]. -/
abbrev Half := BitVec 16

/-- A local word, LD[31:0], and a local byte address. -/
abbrev Word := BitVec 32

/-- A host byte address in the 16 MiB aperture space (00_scope, section 1). -/
abbrev HostAddr := BitVec 24

/-- An entry index of the Aperture Table, 0..7 (R1). -/
abbrev EntryIdx := Fin 8

/-- A prefetch line's number, 0 or 1 (R53). -/
abbrev LineIdx := Fin 2

end Sys2Proof
end

