-- ==== Sys2Proof/Syntax.lean ====
section
/-! DEFINITION. The commands of the VA-208: one constructor of `Instr` per row of spec/opcode_table.json. The
table gives a row no operands; each constructor carries those the owning rule gives the access (log entry 7). -/

namespace Sys2Proof

/-- The two register windows (R175, R176). -/
inductive Window where
  /-- The host register window. -/
  | host
  /-- The local register window. -/
  | loc
  deriving DecidableEq, Repr

/-- The byte strobes of a host access: HLB for HD[7:0], HUB for HD[15:8] (00_scope, section 7). -/
structure Strobes where
  hlb : Bool
  hub : Bool
  deriving DecidableEq, Repr

/-- The negotiated settings S4 to S7 (R126). -/
inductive NegSetting where
  /-- S4 ATTENTION_ROUTE. -/
  | attentionRoute
  /-- S5 STREAM_ENABLE. -/
  | streamEnable
  /-- S6 TABLE_RIGHTS. -/
  | tableRights
  /-- S7 LINE_PERMIT. -/
  | linePermit
  deriving DecidableEq, Repr

/-- The four ring setting registers (R103, R179). -/
inductive RingReg where
  | inBase
  | inConfig
  | outBase
  | outConfig
  deriving DecidableEq, Repr

/-- One register window write as the bus carries it: the register number is HA[6:1] or LA[7:2] (R175, R176). -/
inductive RegWrite where
  /-- A host window write with its strobes and HD. -/
  | host (reg : BitVec 6) (st : Strobes) (hd : Half)
  /-- A local window write with LBE and LD. -/
  | loc (reg : BitVec 6) (lbe : BitVec 4) (ld : Word)
  deriving DecidableEq, Repr

/-- The commands, in the order of the table. -/
inductive Instr where
  /-- HOST_APERTURE_READ: HA[23:1] and the strobes (R15). -/
  | hostApertureRead (ha : BitVec 23) (st : Strobes)
  /-- HOST_APERTURE_WRITE: HA[23:1], the strobes and HD (R15). -/
  | hostApertureWrite (ha : BitVec 23) (st : Strobes) (hd : Half)
  /-- STREAM_DATA_WRITE: the strobes and HD (R109). -/
  | streamDataWrite (st : Strobes) (hd : Half)
  /-- STREAM_DATA_READ: the strobes (R119). -/
  | streamDataRead (st : Strobes)
  /-- MODULE_RESET: the bit written to S0 (R171). -/
  | moduleReset (v : Bool)
  /-- POWER_REQUEST: the bit written to S1, true for LOW (R163). -/
  | powerRequest (low : Bool)
  /-- EVENT_ENABLE: the nine enables written to S2 (R128). -/
  | eventEnable (enables : BitVec 9)
  /-- STALL_LIMIT: the limit written to S3 (R128). -/
  | stallLimit (limit : BitVec 12)
  /-- NEGOTIATED_SETTING_WRITE: the setting and its four-bit value field (R127). -/
  | negotiatedSettingWrite (setting : NegSetting) (value : BitVec 4)
  /-- HOST_EVENT: the word written to the host event register (R147). -/
  | hostEvent (data : Half)
  /-- STREAM_STATUS: the word written to the host stream status (R122). -/
  | streamStatus (data : Half)
  /-- END (R114). -/
  | endMessage
  /-- NEXT (R121). -/
  | nextMessage
  /-- NOTE_POP (R154). -/
  | notePop
  /-- FAULT_POP from a window (R93). -/
  | faultPop (w : Window)
  /-- CLEAR_LOST (R94). -/
  | clearLost
  /-- OPEN from a window (R6). -/
  | openEntry (w : Window)
  /-- CLOSE from a window (R7). -/
  | closeEntry (w : Window)
  /-- RESUME from a window (R8). -/
  | resumeEntry (w : Window)
  /-- RETARGET from a window (R9). -/
  | retarget (w : Window)
  /-- SET_EDITABLE from a window; the host's is refused (R5, R10). -/
  | setEditable (w : Window)
  /-- MODULE_READY with the wake settings of the same POWER_CMD write (R162, R180). -/
  | moduleReady (onAccess onAttention : Bool)
  /-- REMAIN with the wake settings of the same write (R165, R180). -/
  | remain (onAccess onAttention : Bool)
  /-- DORMANT_CONFIRM with the wake settings of the same write (R166, R180). -/
  | dormantConfirm (onAccess onAttention : Bool)
  /-- WAKE with the wake settings of the same write (R167, R180). -/
  | wake (onAccess onAttention : Bool)
  /-- DATAPATH_RESET (R172). -/
  | datapathReset
  /-- NOTICE: the four bits written to the notice register (R129). -/
  | notice (data : BitVec 4)
  /-- ANSWER_ACCEPT: setting index, serial and reason of the answer register (R135, R178). -/
  | answerAccept (setting : BitVec 3) (serial : BitVec 8) (reason : BitVec 4)
  /-- ANSWER_REJECT: setting index, serial and reason of the answer register (R135, R178). -/
  | answerReject (setting : BitVec 3) (serial : BitVec 8) (reason : BitVec 4)
  /-- LOCAL_EVENT: the word written to the local event register (R150). -/
  | localEvent (data : Word)
  /-- LOCAL_MASK: the twelve enables (R151). -/
  | localMask (mask : BitVec 12)
  /-- INVALIDATE_LINES (R54). -/
  | invalidateLines
  /-- FRESHNESS: the value written (R56). -/
  | freshness (value : BitVec 8)
  /-- GRANT_PATIENCE: the value written (R76). -/
  | grantPatience (value : BitVec 8)
  /-- YIELD_HONOR: the bit written (R73). -/
  | yieldHonor (value : Bool)
  /-- RING_SETTING_WRITE: the register and the word written (R103, R179). -/
  | ringSettingWrite (reg : RingReg) (data : Word)
  /-- IN_CONSUME: the word written (R105, R179). -/
  | inConsume (data : Word)
  /-- OUT_PRODUCE: the word written (R105, R179). -/
  | outProduce (data : Word)
  /-- INDEX_REFUSED_CLEAR: one written to INDEX_REFUSED (R105). -/
  | indexRefusedClear
  /-- IN_START (R106). -/
  | inStart
  /-- IN_STOP (R106). -/
  | inStop
  /-- IN_RESTART (R106). -/
  | inRestart
  /-- IN_POP (R115). -/
  | inPop
  /-- OUT_START (R107). -/
  | outStart
  /-- OUT_STOP (R107). -/
  | outStop
  /-- OUT_RESTART (R107). -/
  | outRestart
  /-- OUT_MARK with its position, bits 31:15 of the command word (R116, R178). -/
  | outMark (position : BitVec 17)
  /-- NOTE_POST: the code posted (R153). -/
  | notePost (code : BitVec 16)
  /-- NOTE_FULL_CLEAR: one written to NOTE_FULL (R153). -/
  | noteFullClear
  /-- REGISTER_WRITE: any window write, here of a register that has no row of its own (R179). -/
  | registerWrite (a : RegWrite)
  /-- POWER_ON_RESET: PON asserted (R170). -/
  | powerOnReset
  /-- POWER_ON_RESET_END: PON deasserted (R170). -/
  | powerOnResetEnd
  /-- LBGNT_ASSERTED (R70). -/
  | lbgntAsserted
  /-- LBGNT_WITHDRAWAL (R74). -/
  | lbgntWithdrawal
  /-- LYLD_ASSERTED (R73). -/
  | lyldAsserted
  /-- LYLD_DEASSERTED (R69, R73). -/
  | lyldDeasserted
  /-- LACK with the word on LD, which a read beat takes (R65). -/
  | lack (ld : Word)
  /-- LERR, alone or together with LACK for the same beat (R65; log entry 22, DESIGN CHOICE). -/
  | lerr
  /-- LATN_ASSERTION (R156). -/
  | latnAssertion
  /-- LATN_DEASSERTION (R156). -/
  | latnDeassertion
  /-- STALL_EXPIRY (R86). -/
  | stallExpiry
  /-- ACK_LIMIT_EXPIRY (R66). -/
  | ackLimitExpiry
  /-- HOLD_EXPIRY (R72). -/
  | holdExpiry
  /-- GRANT_PATIENCE_EXPIRY (R76). -/
  | grantPatienceExpiry
  /-- LINGER_EXPIRY (R111). -/
  | lingerExpiry
  /-- FRESHNESS_EXPIRY of a line (R56). -/
  | freshnessExpiry (line : LineIdx)
  /-- ANSWER_EXPIRY of the present proposal of a setting (R139; log entry 24, DESIGN CHOICE). -/
  | answerExpiry (setting : NegSetting)
  /-- REQUEST_BEGIN: the tick that lets a waiting request begin (R69). -/
  | requestBegin
  deriving DecidableEq, Repr

end Sys2Proof
end

