-- ==== Sys2Proof/Decode.lean ====
section
/-! DEFINITION. No row of the table has bits, so no word spells a command (log entry 8). What a register window
write spells is decoded here: the row that names it, if one does (R175, R176, R178). -/

namespace Sys2Proof

/-- The command a table word spells: none, as the table gives no row any bits (log entry 8). -/
def decodeTableWord (_nbits _w : Nat) : Option Instr := none

/-- The row a table command's value names (R178). -/
def tableRow (w : Window) (c : BitVec 4) : Option Instr :=
  match c.toNat with
  | 1 => some (.openEntry w)
  | 2 => some (.closeEntry w)
  | 3 => some (.resumeEntry w)
  | 4 => some (.retarget w)
  | 5 => some (.setEditable w)
  | _ => none

/-- The row a host window write of a halfword names, by its offset (Table 10-1). -/
def hostRow (reg : BitVec 6) (hd : Half) : Option Instr :=
  let c := hd.extractLsb' 0 4
  match 2 * reg.toNat with
  | 0x08 => some (.moduleReset (hd.getLsbD 0))
  | 0x0A => some (.powerRequest (hd.getLsbD 0))
  | 0x0C => some (.eventEnable (hd.extractLsb' 0 9))
  | 0x0E => some (.stallLimit (hd.extractLsb' 0 12))
  | 0x10 => some (.negotiatedSettingWrite .attentionRoute c)
  | 0x12 => some (.negotiatedSettingWrite .streamEnable c)
  | 0x14 => some (.negotiatedSettingWrite .tableRights c)
  | 0x16 => some (.negotiatedSettingWrite .linePermit c)
  | 0x20 => some (.hostEvent hd)
  | 0x24 => if c = 1#4 then some (.faultPop .host) else none
  | 0x3A => if c = 1#4 then some .notePop else none
  | 0x48 => tableRow .host c
  | 0x62 => some (.streamStatus hd)
  | 0x6C => if c = 1#4 then some .endMessage else if c = 2#4 then some .nextMessage else none
  | _ => none

/-- The row a local STREAM_CMD value names (R178). -/
def localStreamRow (c : BitVec 4) (position : BitVec 17) : Option Instr :=
  match c.toNat with
  | 1 => some .inStart
  | 2 => some .inStop
  | 3 => some .inRestart
  | 4 => some .inPop
  | 5 => some .outStart
  | 6 => some .outStop
  | 7 => some .outRestart
  | 8 => some (.outMark position)
  | _ => none

/-- The row a POWER_CMD value names (R178, R180). -/
def powerRow (c : BitVec 4) (onAccess onAttention : Bool) : Option Instr :=
  match c.toNat with
  | 1 => some (.moduleReady onAccess onAttention)
  | 2 => some (.remain onAccess onAttention)
  | 3 => some (.dormantConfirm onAccess onAttention)
  | 4 => some (.wake onAccess onAttention)
  | _ => none

/-- The row a full-word local window write names, by its offset (Table 10-2). -/
def localRow (reg : BitVec 6) (ld : Word) : Option Instr :=
  let c := ld.extractLsb' 0 4
  match 4 * reg.toNat with
  | 0x08 => powerRow c (ld.getLsbD 16) (ld.getLsbD 17)
  | 0x0C => if c = 1#4 then some .datapathReset else none
  | 0x10 => some (.notice c)
  | 0x20 =>
    if c = 1#4 then some (.answerAccept (ld.extractLsb' 16 3) (ld.extractLsb' 24 8) (ld.extractLsb' 20 4))
    else if c = 2#4 then some (.answerReject (ld.extractLsb' 16 3) (ld.extractLsb' 24 8) (ld.extractLsb' 20 4))
    else none
  | 0x28 => some (.localEvent ld)
  | 0x2C => some (.localMask (ld.extractLsb' 0 12))
  | 0x34 => if c = 1#4 then some (.faultPop .loc) else if c = 2#4 then some .clearLost else none
  | 0x50 => tableRow .loc c
  | 0x64 => if c = 1#4 then some .invalidateLines else none
  | 0x68 => some (.freshness (ld.extractLsb' 0 8))
  | 0x70 => some (.grantPatience (ld.extractLsb' 0 8))
  | 0x74 => some (.yieldHonor (ld.getLsbD 0))
  | 0x78 => some (.ringSettingWrite .inBase ld)
  | 0x7C => some (.ringSettingWrite .inConfig ld)
  | 0x80 => some (.ringSettingWrite .outBase ld)
  | 0x84 => some (.ringSettingWrite .outConfig ld)
  | 0x8C => some (.inConsume ld)
  | 0x90 => some (.outProduce ld)
  | 0x9C => localStreamRow c (ld.extractLsb' 15 17)
  | 0xA0 => if ld.getLsbD 8 then some .indexRefusedClear else none
  | 0xB0 => some (.notePost (ld.extractLsb' 0 16))
  | 0xB4 => if ld.getLsbD 8 then some .noteFullClear else none
  | _ => none

/-- The row of its own that a register window write names, none when REGISTER_WRITE alone covers it: a register
without a row, a value that names no command, or a write that the window ignores (R175, R176, R178). -/
def RegWrite.row : RegWrite → Option Instr
  | .host reg st hd =>
    if 2 * reg.toNat = 0x60 then some (.streamDataWrite st hd)
    else if st.hlb && st.hub then hostRow reg hd
    else none
  | .loc reg lbe ld => if lbe = 0xF#4 then localRow reg ld else none

end Sys2Proof
end

