-- ==== Sys2Proof/Config.lean ====
section
/-! DEFINITION. What the VA-208 fixes: capacities, codes and limits the rules name. The spec leaves no value
open that an operation writes, so there is no free value here. -/

namespace Sys2Proof.Config

/-- The PWQ holds at most 16 records (R26). -/
abbrev pwqDepth : Nat := 16

/-- The Fault Queue holds up to 4 records (R91). -/
abbrev faultDepth : Nat := 4

/-- The Note List holds up to 4 notes (R152). -/
abbrev noteDepth : Nat := 4

/-- The boundary list and the mark list hold up to 8 elements (R115, R116). -/
abbrev listDepth : Nat := 8

/-- Each stream FIFO holds 32 bytes (00_scope, section 3; R122). -/
abbrev fifoDepth : Nat := 32

/-- The longest current message (R109). -/
abbrev maxMessage : Nat := 65535

/-- A stream run has at most 16 bytes (R112, R117), and 16 FIFO bytes make a move due (R111). -/
abbrev runBytes : Nat := 16

/-- The linger time in microseconds (R111). -/
abbrev lingerLimit : Nat := 8

/-- The aperture run count at which a stream client goes first (R78). -/
abbrev runLimit : Nat := 8

/-- Microseconds in a millisecond of ANSWER_LIMIT (R138). -/
abbrev ticksPerMs : Nat := 1000

/-- The filler of a halfword read; a byte read's filler is 0xFF on both halves too (R100). -/
abbrev filler : Half := 0xFFFF#16

/-- The part code of the identification registers (R177). -/
abbrev partCode : BitVec 16 := 0x0A28#16

/-- The revision of the identification registers (R177). -/
abbrev revision : BitVec 8 := 1#8

/-- Reset value of STALL_LIMIT (R126, R143). -/
abbrev resetStallLimit : BitVec 12 := 500#12

/-- Reset value of ACK_LIMIT (R66, R83). -/
abbrev resetAckLimit : BitVec 8 := 32#8

/-- Reset value of ANSWER_LIMIT (R138, R143). -/
abbrev resetAnswerLimit : BitVec 8 := 50#8

/-- The codes of ATTENTION_ROUTE's accepted value (R127). -/
abbrev routeLocal : BitVec 4 := 0#4
/-- FORWARD (R127). -/
abbrev routeForward : BitVec 4 := 1#4
/-- MIRROR (R127). -/
abbrev routeMirror : BitVec 4 := 2#4

end Sys2Proof.Config
end

