-- ==== Sys2Proof/Machine/State.lean ====
section
/-! DEFINITION. The state of the VA-208 as plain data, block by block, and its value after power-on reset.
INVENTORY.md lists every piece with the rule that names it. -/

namespace Sys2Proof.Machine

/-! ### Stops -/

/-- The spec names no condition in which the block stops: failures are fault RECORDS (R88), which are state. So
no fault exists, and nothing raises one. -/
inductive Fault where
  deriving DecidableEq, Repr

/-- Raised by a refused arm of `exec` only; no arm is refused. -/
inductive Refusal where
  /-- The command has no meaning yet. Safe: the machine stops. -/
  | notModelled (mnemonic : String)
  deriving DecidableEq, Repr

/-! ### Command results -/

/-- The result codes common to all command registers (R178). -/
inductive Result where
  | ok | busy | badField | badState | notPermitted | overlap | misaligned | pendingWork | empty | stale
  | notYet | full | notEnabled | badRing | badMark | notRunning | noMessage | notReady | notDrained
  deriving DecidableEq, Repr

/-- A running timer: the tick it started at and its limit in microseconds (00_scope, section 7). -/
structure Timer where
  start : Nat
  limit : Nat
  deriving DecidableEq, Repr

/-! ### The Aperture Table (R1 to R4) -/

/-- The states of an entry that is not EMPTY (R1). -/
inductive EntryPhase where
  | opened | suspended | draining
  deriving DecidableEq, Repr

/-- The host directions an entry carries (R1). -/
inductive Access where
  | readOnly | writeOnly | readWrite
  deriving DecidableEq, Repr

/-- The fields an entry takes from a staging record (R1). The local base is held as a local page number, so it is
a multiple of 4,096 (R3). -/
structure Aperture where
  page : BitVec 12
  size : BitVec 4
  base : BitVec 20
  access : Access
  strict : Bool
  streaming : Bool
  combine : Bool
  swapped : Bool
  slide : Bool
  hold : BitVec 4
  deriving DecidableEq, Repr

/-- An entry that is OPEN, SUSPENDED or DRAINING (R1). -/
structure LiveEntry where
  phase : EntryPhase
  ap : Aperture
  slideCount : BitVec 16
  refused : BitVec 8
  deriving DecidableEq, Repr

/-- An entry: while it is EMPTY (`live` is none) it holds its host-editable field and nothing else (R1). -/
structure Entry where
  editable : Bool
  live : Option LiveEntry
  deriving DecidableEq, Repr

/-- A staging record (R3). `editable` is a field of the local record only; the host's stays false (Table 10-3). -/
structure Staging where
  target : EntryIdx
  page : BitVec 12
  size : BitVec 4
  base : BitVec 20
  access : BitVec 2
  strict : Bool
  streaming : Bool
  combine : Bool
  swapped : Bool
  slide : Bool
  hold : BitVec 4
  editable : Bool
  deriving DecidableEq, Repr

/-- The Aperture Table with both windows' staging records, View selections and results (R1 to R5). -/
structure Table where
  entries : Vector Entry 8
  hostStage : Staging
  localStage : Staging
  hostView : EntryIdx
  localView : EntryIdx
  hostResult : Result
  localResult : Result
  deriving DecidableEq, Repr

/-! ### The Posted Write Queue (R25 to R28) -/

/-- A PWQ record (R25). A lane outside `mask` holds no value; its byte of `data` is 0, as LD carries it (R35). -/
structure WriteRecord where
  seq : BitVec 8
  entry : EntryIdx
  hostAddr : HostAddr
  word : Word
  mask : BitVec 4
  data : Word
  strict : Bool
  inFlight : Bool
  deriving DecidableEq, Repr

/-- A classified host write on its way into the queue (R28, section 2.2). -/
structure HostWrite where
  entry : EntryIdx
  hostAddr : HostAddr
  word : Word
  mask : BitVec 4
  data : Word
  strict : Bool
  combine : Bool
  deriving DecidableEq, Repr

/-- The held-write record (R28). -/
inductive HeldWrite where
  | none
  | slotWait (w : HostWrite)
  | recordWait (seq : BitVec 8)
  deriving DecidableEq, Repr

/-- The queue, oldest record first, its sequence counter and the held write (R26 to R28). -/
structure Pwq where
  records : List WriteRecord
  seq : BitVec 8
  held : HeldWrite
  deriving DecidableEq, Repr

/-! ### The Read Slot and the Line Set (R44, R53) -/

/-- The kind of a host read (R44). -/
inductive ReadKind where
  | single | line
  deriving DecidableEq, Repr

/-- The state of a host read record (R44, R45). -/
inductive ReadPhase where
  | orderWait | busWait | inFlight
  deriving DecidableEq, Repr

/-- The local lane answered on each half of HD, absent where the strobe was not asserted (R44, R49). -/
structure ReadLanes where
  low : Option (BitVec 2)
  high : Option (BitVec 2)
  deriving DecidableEq, Repr

/-- The host read record (R44). `line` is present for a LINE record in flight. -/
structure ReadRecord where
  hostAddr : HostAddr
  entry : EntryIdx
  word : Word
  lanes : ReadLanes
  kind : ReadKind
  phase : ReadPhase
  line : Option LineIdx
  deriving DecidableEq, Repr

/-- The orphan (R44). -/
structure Orphan where
  entry : EntryIdx
  kind : ReadKind
  line : Option LineIdx
  deriving DecidableEq, Repr

/-- The Read Slot (R44). -/
structure ReadSlot where
  record : Option ReadRecord
  orphan : Option Orphan
  deriving DecidableEq, Repr

/-- A prefetch line (R53). Each state holds the fields that have a meaning in it (R62). -/
inductive Line where
  | invalid
  | filling (spoiled : Bool) (entry : EntryIdx) (addr : Word)
  | valid (entry : EntryIdx) (addr : Word) (data : List Word) (fillTime : Nat)
  deriving DecidableEq, Repr

/-- The Line Set with FRESHNESS and the INVALIDATE_LINES result (R53, R54, R56). -/
structure LineSet where
  line0 : Line
  line1 : Line
  freshness : BitVec 8
  result : Result
  deriving DecidableEq, Repr

/-! ### The Local Bus Master (R63, R68) -/

/-- The clients of the master (R63). -/
inductive Client where
  | readSlot | pwq | inbound | outbound
  deriving DecidableEq, Repr

/-- The kinds of transfer (R64). -/
inductive TransferKind where
  | singleRead | singleWrite | lineFill | streamMove | streamFetch
  deriving DecidableEq, Repr

/-- One beat: LBE, and LD for a write, where lanes not enabled carry 0 (R35, R64). A read beat has LD 0 here. -/
structure Beat where
  lbe : BitVec 4
  ld : Word
  deriving DecidableEq, Repr

/-- The transfer record (R63). `runLen` and `runSkip` are the model's own: the bytes of a stream run and its offset
in the first word (R64). `beatTimer` is the timer of the beat presented (R66). -/
structure Transfer where
  client : Client
  kind : TransferKind
  entry : Option EntryIdx
  first : Word
  beats : List Beat
  beatsDone : Nat
  readData : List Word
  discard : Bool
  beatTimer : Timer
  runLen : Nat
  runSkip : Nat
  deriving DecidableEq, Repr

/-- The reason of YIELDING (R68). -/
inductive YieldReason where
  | yielded | withdrawn
  deriving DecidableEq, Repr

/-- The grant patience timer during a request (R76): `expired` lasts until the request ends, and LURG with it. -/
inductive Patience where
  | stopped | running | expired
  deriving DecidableEq, Repr

/-- The ownership state (R68). REQUESTING keeps the tick of its entry (R76); OWNED_HOLDING its hold timer (R72). -/
inductive Ownership where
  | released
  | requesting (since : Nat) (patience : Patience)
  | transferring
  | holding (timer : Timer)
  | yielding (why : YieldReason)
  deriving DecidableEq, Repr

/-- The two stream channels (R78). -/
inductive Channel where
  | inbound | outbound
  deriving DecidableEq, Repr

/-- The Local Bus Master (R63, R66, R68, R73, R76, R78). `releaseMark` none: already past (R83). -/
structure Master where
  own : Ownership
  releaseMark : Option Nat
  transfer : Option Transfer
  run : Nat
  lastStream : Channel
  ackLimit : BitVec 8
  grantPatience : BitVec 8
  yieldHonor : Bool
  deriving DecidableEq, Repr

/-! ### The Stall Monitor and the Fault Queue (R84, R88, R91) -/

/-- The holder of the transaction in wait (R84). -/
inductive Holder where
  | pwq | readSlot | inbound | outbound
  deriving DecidableEq, Repr

/-- TIMING with its holder (R84); IDLE is the absence of this. -/
structure StallTiming where
  holder : Holder
  timer : Timer
  deriving DecidableEq, Repr

/-- Fault kinds (R88). -/
inductive FaultKind where
  | unmapped | denied | stall | localError | localTimeout
  deriving DecidableEq, Repr

/-- Fault origins (R88). -/
inductive FaultOrigin where
  | hostAccess | hostRead | lineFill | postedWrite | strictWrite | streamIn | streamOut
  deriving DecidableEq, Repr

/-- Directions (R88). -/
inductive Direction where
  | read | write
  deriving DecidableEq, Repr

/-- A fault record; an optional field is present as R90 states (R88). -/
structure FaultRecord where
  kind : FaultKind
  origin : FaultOrigin
  direction : Direction
  entry : Option EntryIdx
  hostAddr : Option HostAddr
  localAddr : Option Word
  seq : Option (BitVec 8)
  dropped : Option (BitVec 4)
  inFlight : Option Bool
  deriving DecidableEq, Repr

/-- The Fault Queue, oldest first, the lost count and the two pop results (R91, R93). -/
structure FaultUnit where
  queue : List FaultRecord
  lost : BitVec 8
  hostResult : Result
  localResult : Result
  deriving DecidableEq, Repr

/-! ### The stream channels (R103 to R122) -/

/-- Inbound channel states (R106). -/
inductive InState where
  | off | running | flushing | halted
  deriving DecidableEq, Repr

/-- Outbound channel states (R107). -/
inductive OutState where
  | off | running | halted
  deriving DecidableEq, Repr

/-- The linger timer (R111). -/
inductive Linger where
  | stopped
  | running (start : Nat)
  | passed
  deriving DecidableEq, Repr

/-- A boundary record; `visible` false is PENDING_DATA (R115). -/
structure Boundary where
  endPos : Nat
  length : Nat
  damaged : Bool
  visible : Bool
  deriving DecidableEq, Repr

/-- The inbound channel. `base` is bits 31:8 of IN_BASE; `drop` is IN_MODE; `held` the entering bytes of a write
held under WAIT (R103, R104, R109, R110, R115). -/
structure Inbound where
  state : InState
  fifo : List Byte
  held : Option (List Byte)
  produce : Nat
  consume : Nat
  base : BitVec 24
  size : BitVec 4
  drop : Bool
  hold : BitVec 4
  linger : Linger
  boundaries : List Boundary
  msgLen : Nat
  damaged : Bool
  deriving DecidableEq, Repr

/-- The outbound channel. `held` is a held Stream Data read's strobes; `fetchVoid` the void mark of the fetch in
flight (R103, R104, R116, R118, R120). -/
structure Outbound where
  state : OutState
  fifo : List Byte
  held : Option Strobes
  produce : Nat
  fetch : Nat
  consume : Nat
  base : BitVec 24
  size : BitVec 4
  hold : BitVec 4
  marks : List Nat
  fetchVoid : Bool
  deriving DecidableEq, Repr

/-- The flags, thresholds and results of the stream block (R105, R122). -/
structure StreamRegs where
  refused : Bool
  dropped : Bool
  emptyRead : Bool
  indexRefused : Bool
  inThreshold : BitVec 6
  outThreshold : BitVec 6
  hostResult : Result
  localResult : Result
  deriving DecidableEq, Repr

/-! ### The Settings Unit (R126, R131, R134) -/

/-- The outcome of a negotiated setting (R131). -/
inductive SettingOutcome where
  | none | pending | accepted | rejected | expired
  deriving DecidableEq, Repr

/-- A negotiated setting (R131). -/
structure Negotiated where
  accepted : BitVec 4
  serial : BitVec 8
  outcome : SettingOutcome
  reason : BitVec 4
  deriving DecidableEq, Repr

/-- A proposal; `timer` is none when ANSWER_LIMIT was 0 at its append (R134, R138). -/
structure Proposal where
  setting : NegSetting
  serial : BitVec 8
  value : BitVec 4
  timer : Option Timer
  deriving DecidableEq, Repr

/-- The four notice flags (R129). -/
structure Notices where
  s0 : Bool
  s1 : Bool
  s2 : Bool
  s3 : Bool
  deriving DecidableEq, Repr

/-- The Settings Table, the Proposal List and the local side of both (R126, R129, R131, R134, R138). -/
structure Settings where
  moduleReset : Bool
  powerLow : Bool
  eventEnable : BitVec 9
  stallLimit : BitVec 12
  s4 : Negotiated
  s5 : Negotiated
  s6 : Negotiated
  s7 : Negotiated
  proposals : List Proposal
  answerLimit : BitVec 8
  notices : Notices
  answerResult : Result
  deriving DecidableEq, Repr

/-! ### The Event Unit (R144, R149, R151, R152) -/

/-- The host latched events (R144). -/
structure HostEvents where
  answer : Bool
  attention : Bool
  power : Bool
  deriving DecidableEq, Repr

/-- The local latched events (R149). -/
structure LocalEvents where
  attention : Bool
  quiesce : Bool
  cancel : Bool
  wake : Bool
  grantSlow : Bool
  table : Bool
  markTaken : Bool
  datapathDone : Bool
  deriving DecidableEq, Repr

/-- The Event Unit (R144, R149, R151, R152, R153, R154). -/
structure Events where
  host : HostEvents
  loc : LocalEvents
  mask : BitVec 12
  notes : List (BitVec 16)
  noteFull : Bool
  noteResult : Result
  deriving DecidableEq, Repr

/-! ### The Power Controller (R160, R161, R167, R172) -/

/-- The power state (R160). -/
inductive PowerState where
  | starting | active | quiescing | dormant | waking
  deriving DecidableEq, Repr

/-- The wake cause (R167). -/
inductive WakeCause where
  | hostRequest | hostAccess | attention | loc
  deriving DecidableEq, Repr

/-- The Power Controller; `cause` none is the absent wake-recorded indication (R160, R161, R167, R172). -/
structure Power where
  state : PowerState
  wakeOnAccess : Bool
  wakeOnAttention : Bool
  cause : Option WakeCause
  result : Result
  resetBusy : Bool
  resetResult : Result
  deriving DecidableEq, Repr

/-! ### The input lines and the whole state -/

/-- Levels of the input lines, true when asserted (00_scope, section 4). -/
structure Pins where
  pon : Bool
  lbgnt : Bool
  lyld : Bool
  latn : Bool
  deriving DecidableEq, Repr

/-- How the latest host transaction stands or ended: what the host sees on HWAIT and HD (the model's own, log
entry 6). -/
inductive HostReply where
  | nothing
  | held
  | written
  | read (hd : Half)
  deriving DecidableEq, Repr

/-- The whole state of the block. `now` counts microsecond ticks (log entry 2) and `pending` is the queue of
waiting commands, first in first out (log entry 1). -/
structure State where
  table : Table
  pwq : Pwq
  slot : ReadSlot
  lineset : LineSet
  master : Master
  stall : Option StallTiming
  faults : FaultUnit
  inb : Inbound
  outb : Outbound
  stream : StreamRegs
  settings : Settings
  events : Events
  power : Power
  pins : Pins
  now : Nat
  hostReply : HostReply
  pending : List Instr
  deriving DecidableEq, Repr

/-! ### Values after power-on reset -/

/-- An EMPTY entry with host-editable 0 (R24). -/
def Entry.clear : Entry := { editable := false, live := none }

/-- A staging record with all fields 0 (R24). -/
def Staging.clear : Staging :=
  { target := 0, page := 0, size := 0, base := 0, access := 0, strict := false, streaming := false,
    combine := false, swapped := false, slide := false, hold := 0, editable := false }

/-- The Aperture Table after power-on reset (R24). -/
def Table.reset : Table :=
  { entries := Vector.replicate 8 Entry.clear, hostStage := Staging.clear, localStage := Staging.clear,
    hostView := 0, localView := 0, hostResult := .ok, localResult := .ok }

/-- The queue after each reset (R43). -/
def Pwq.reset : Pwq := { records := [], seq := 0, held := .none }

/-- The Read Slot after each reset (R62). -/
def ReadSlot.reset : ReadSlot := { record := none, orphan := none }

/-- The Line Set after power-on reset (R62). -/
def LineSet.reset : LineSet := { line0 := .invalid, line1 := .invalid, freshness := 0, result := .ok }

/-- The Local Bus Master after power-on reset (R83). -/
def Master.reset : Master :=
  { own := .released, releaseMark := none, transfer := none, run := 0, lastStream := .outbound,
    ackLimit := Config.resetAckLimit, grantPatience := 0, yieldHonor := true }

/-- The fault unit after power-on reset (R102). -/
def FaultUnit.reset : FaultUnit := { queue := [], lost := 0, hostResult := .ok, localResult := .ok }

/-- The inbound channel after power-on reset (R125). -/
def Inbound.reset : Inbound :=
  { state := .off, fifo := [], held := none, produce := 0, consume := 0, base := 0, size := 0, drop := false,
    hold := 0, linger := .stopped, boundaries := [], msgLen := 0, damaged := false }

/-- The outbound channel after power-on reset (R125). -/
def Outbound.reset : Outbound :=
  { state := .off, fifo := [], held := none, produce := 0, fetch := 0, consume := 0, base := 0, size := 0,
    hold := 0, marks := [], fetchVoid := false }

/-- The stream block's registers after power-on reset (R125). -/
def StreamRegs.reset : StreamRegs :=
  { refused := false, dropped := false, emptyRead := false, indexRefused := false, inThreshold := 16,
    outThreshold := 1, hostResult := .ok, localResult := .ok }

/-- A negotiated setting after power-on and module reset: LOCAL is code 0 (R143). -/
def Negotiated.reset : Negotiated := { accepted := 0, serial := 0, outcome := .none, reason := 0 }

/-- All notice flags clear (R143). -/
def Notices.clear : Notices := { s0 := false, s1 := false, s2 := false, s3 := false }

/-- The Settings Unit after power-on reset (R143). -/
def Settings.reset : Settings :=
  { moduleReset := false, powerLow := false, eventEnable := 0, stallLimit := Config.resetStallLimit,
    s4 := Negotiated.reset, s5 := Negotiated.reset, s6 := Negotiated.reset, s7 := Negotiated.reset,
    proposals := [], answerLimit := Config.resetAnswerLimit, notices := Notices.clear, answerResult := .ok }

/-- All local latched events clear (R159). -/
def LocalEvents.clear : LocalEvents :=
  { attention := false, quiesce := false, cancel := false, wake := false, grantSlow := false, table := false,
    markTaken := false, datapathDone := false }

/-- The Event Unit after power-on reset (R159). -/
def Events.reset : Events :=
  { host := { answer := false, attention := false, power := false }, loc := LocalEvents.clear, mask := 0,
    notes := [], noteFull := false, noteResult := .ok }

/-- The Power Controller after power-on reset (R174). -/
def Power.reset : Power :=
  { state := .starting, wakeOnAccess := false, wakeOnAttention := false, cause := none, result := .ok,
    resetBusy := false, resetResult := .ok }

/-- The machine right after power-on reset, PON deasserted: STARTING with MODULE_RESET at 0 (R170). The levels of
LBGNT, LYLD and LATN are DESIGN CHOICE deasserted (log entry 4). Unsafe: a module may hold one asserted. -/
def State.reset : State :=
  { table := Table.reset, pwq := Pwq.reset, slot := ReadSlot.reset, lineset := LineSet.reset,
    master := Master.reset, stall := none, faults := FaultUnit.reset, inb := Inbound.reset,
    outb := Outbound.reset, stream := StreamRegs.reset, settings := Settings.reset, events := Events.reset,
    power := Power.reset, pins := { pon := false, lbgnt := false, lyld := false, latn := false },
    now := 0, hostReply := .nothing, pending := [] }

end Sys2Proof.Machine
end

