-- ==== Sys2Proof/Machine/Operands.lean ====
section
/-! DEFINITION. Operand forms: host and local addresses, byte lanes in both directions, stream runs, ring indices
and the bit fields of written words. -/

namespace Sys2Proof.Machine

/-! ### Bits and bytes -/

/-- A Bool as one bit. -/
def bit (b : Bool) : BitVec 1 := BitVec.ofBool b

/-- The byte on local lane `k` of a word: lane k carries the byte at local address 4m+k (00_scope, section 7). -/
def laneByte (w : Word) (k : BitVec 2) : Byte := (w >>> (8 * k.toNat)).setWidth 8

/-- A byte placed on local lane `k`, the other lanes 0. -/
def onLane (b : Byte) (k : BitVec 2) : Word := (b.setWidth 32) <<< (8 * k.toNat)

/-- The mask that selects local lane `k`. -/
def laneMask (k : BitVec 2) : BitVec 4 := 1#4 <<< k.toNat

/-- An 8-bit count that stays at 255 once there (R1, R91). -/
def satInc (c : BitVec 8) : BitVec 8 := if c = 255#8 then c else c + 1

/-- An index read from a three-bit field. -/
def idx8 (b : BitVec 3) : EntryIdx := b.toFin

/-! ### Host addresses and coverage (R15) -/

/-- Whether an access asserts a strobe (R15). -/
def anyStrobe (st : Strobes) : Bool := st.hlb || st.hub

/-- Whether an access is a halfword access (00_scope, section 7). -/
def bothStrobes (st : Strobes) : Bool := st.hlb && st.hub

/-- The host address: the byte address of the lowest enabled byte (R15). -/
def hostAddress (ha : BitVec 23) (st : Strobes) : HostAddr := ha ++ bit (!st.hlb)

/-- The host page of a host address (R15). -/
def hostPage (a : HostAddr) : Nat := a.toNat / 4096

/-- The page count of a size code, 2^code (R1). -/
def pageCount (size : BitVec 4) : Nat := 2 ^ size.toNat

/-- Whether an aperture's host range covers a host address (R1, R15). -/
def Aperture.covers (ap : Aperture) (a : HostAddr) : Bool :=
  decide (ap.page.toNat ≤ hostPage a) && decide (hostPage a < ap.page.toNat + pageCount ap.size)

/-- Whether two page ranges share a host page (R6). -/
def rangesMeet (p : BitVec 12) (n : BitVec 4) (q : BitVec 12) (m : BitVec 4) : Bool :=
  decide (p.toNat < q.toNat + pageCount m) && decide (q.toNat < p.toNat + pageCount n)

/-! ### Local addresses (R20) -/

/-- The local base as a local address. -/
def Aperture.localBase (ap : Aperture) : Word := ap.base ++ 0#12

/-- The local byte address: local base plus offset, modulo 2^32 (R20). -/
def Aperture.localByte (ap : Aperture) (a : HostAddr) : Word :=
  ap.localBase + (a.setWidth 32 - (ap.page.setWidth 32) <<< 12)

/-- A local address rounded down to its word (R20). -/
def wordOf (a : Word) : Word := a &&& 0xFFFFFFFC#32

/-- A local address rounded down to its line (R46). -/
def lineAddr (a : Word) : Word := a &&& 0xFFFFFFE0#32

/-- The word's number within its line (R46). -/
def lineWord (a : Word) : Nat := (a.toNat % 32) / 4

/-- The final local word of an aperture: local base plus size minus 4, modulo 2^32 (R1). -/
def Aperture.finalWord (ap : Aperture) : Word :=
  ap.localBase + (BitVec.ofNat 32 (4096 * pageCount ap.size) - 4#32)

/-- The local base after a slide: one aperture size further, modulo 2^32 (R22). -/
def Aperture.slid (ap : Aperture) : Aperture :=
  { ap with base := ap.base + BitVec.ofNat 20 (pageCount ap.size) }

/-! ### Lanes (R21) -/

/-- The local lane of the even byte of a host halfword: 0 or 2 (R21). -/
def evenLane (ha : BitVec 23) : BitVec 2 := if ha.getLsbD 0 then 2#2 else 0#2

/-- The lane that meets HD[7:0] (R21). -/
def lowLane (ha : BitVec 23) (swapped : Bool) : BitVec 2 := if swapped then evenLane ha + 1 else evenLane ha

/-- The lane that meets HD[15:8] (R21). -/
def highLane (ha : BitVec 23) (swapped : Bool) : BitVec 2 := if swapped then evenLane ha else evenLane ha + 1

/-- The lanes an access reads, each with its half of HD (R21, R44). -/
def readLanes (ha : BitVec 23) (st : Strobes) (swapped : Bool) : ReadLanes :=
  { low := if st.hlb then some (lowLane ha swapped) else none,
    high := if st.hub then some (highLane ha swapped) else none }

/-- The byte enables of a host read (R48). -/
def ReadLanes.mask (l : ReadLanes) : BitVec 4 :=
  (l.low.elim 0#4 laneMask) ||| (l.high.elim 0#4 laneMask)

/-- Read data back in host order; a half without a strobe carries 0xFF (R49). -/
def ReadLanes.answer (l : ReadLanes) (w : Word) : Half :=
  (l.high.elim 0xFF#8 (laneByte w)) ++ (l.low.elim 0xFF#8 (laneByte w))

/-- The lane set of a host write (R21). -/
def writeMask (ha : BitVec 23) (st : Strobes) (swapped : Bool) : BitVec 4 :=
  (readLanes ha st swapped).mask

/-- A host write's data bytes on their lanes (R21). -/
def writeData (ha : BitVec 23) (st : Strobes) (hd : Half) (swapped : Bool) : Word :=
  (if st.hlb then onLane (hd.setWidth 8) (lowLane ha swapped) else 0#32) |||
  (if st.hub then onLane ((hd >>> 8).setWidth 8) (highLane ha swapped) else 0#32)

/-! ### Staging records (R3, R6) -/

/-- The access an access code names (Table 10-3). -/
def accessOf (code : BitVec 2) : Option Access :=
  if code = 0#2 then some .readOnly
  else if code = 1#2 then some .writeOnly
  else if code = 2#2 then some .readWrite
  else none

/-- The code of an access (Table 10-3). -/
def Access.code : Access → BitVec 2
  | .readOnly => 0#2
  | .writeOnly => 1#2
  | .readWrite => 2#2

/-- Whether an access carries reads (R19). -/
def Access.reads : Access → Bool
  | .readOnly => true
  | .writeOnly => false
  | .readWrite => true

/-- Whether an access carries writes (R19). -/
def Access.writes : Access → Bool
  | .readOnly => false
  | .writeOnly => true
  | .readWrite => true

/-- The fields an OPEN takes, when size code and access code are legal (R6, second check). -/
def Staging.aperture (g : Staging) : Option Aperture :=
  match accessOf g.access with
  | some a =>
    if g.size.toNat ≤ 8 then
      some { page := g.page, size := g.size, base := g.base, access := a, strict := g.strict,
             streaming := g.streaming, combine := g.combine, swapped := g.swapped, slide := g.slide,
             hold := g.hold }
    else none
  | none => none

/-! ### Rings (R103, R104) -/

/-- The ring size of a size code, 256·2^code bytes (R103). -/
def ringSize (size : BitVec 4) : Nat := 256 * 2 ^ size.toNat

/-- The distance from index `a` to index `b`, modulo twice the ring size (R104). -/
def ringDist (size a b : Nat) : Nat := (b + (2 * size - a % (2 * size))) % (2 * size)

/-- An index advanced by `n`, modulo twice the ring size (R104). -/
def advance (size i n : Nat) : Nat := (i + n) % (2 * size)

/-- The base address of bits 31:8 (R103). -/
def ringBase (base : BitVec 24) : Word := base ++ 0#8

/-- The local address of an index (R104). -/
def ringAddr (base : BitVec 24) (size : Nat) (i : Nat) : Word := ringBase base + BitVec.ofNat 32 (i % size)

/-- Whether a ring is valid: legal size code and base a multiple of the size (R103, R106). -/
def ringValid (base : BitVec 24) (size : BitVec 4) : Bool :=
  decide (size.toNat ≤ 8) && decide ((ringBase base).toNat % ringSize size = 0)

/-! ### Stream runs (R64) -/

/-- The number of words a run touches (R64). -/
def runWords (skip len : Nat) : Nat := (skip + len + 3) / 4

/-- The byte of a run on lane `k` of its word `i`, if the run holds one there (R64). -/
def runByte (skip : Nat) (bytes : List Byte) (i k : Nat) : Option Byte :=
  if 4 * i + k < skip then none else bytes[4 * i + k - skip]?

/-- One beat of a run: the lanes holding bytes of the run, and the bytes on them (R64). -/
def runBeat (skip : Nat) (bytes : List Byte) (i : Nat) : Beat :=
  let b (k : Nat) : Option Byte := runByte skip bytes i k
  { lbe := bit (b 3).isSome ++ bit (b 2).isSome ++ bit (b 1).isSome ++ bit (b 0).isSome,
    ld := (b 3).getD 0 ++ (b 2).getD 0 ++ (b 1).getD 0 ++ (b 0).getD 0 }

/-- The beats of a run, one for each word it touches (R64). -/
def runBeats (skip : Nat) (bytes : List Byte) : List Beat :=
  (List.range (runWords skip bytes.length)).map (runBeat skip bytes)

/-- The four bytes of a word, lane 0 first. -/
def wordBytes (w : Word) : List Byte := [laneByte w 0, laneByte w 1, laneByte w 2, laneByte w 3]

/-- The run's bytes out of the words read, in ring order (R118). -/
def runOf (skip len : Nat) (words : List Word) : List Byte := ((words.flatMap wordBytes).drop skip).take len

/-! ### Stream Data accesses (R109, R119) -/

/-- The bytes of a Stream Data write, in order (R109). -/
def streamBytes (st : Strobes) (hd : Half) : List Byte :=
  (if st.hlb then [hd.setWidth 8] else []) ++ (if st.hub then [(hd >>> 8).setWidth 8] else [])

/-- The bytes a Stream Data read takes of those available: `t` of R119. -/
def streamTake (st : Strobes) (available : Nat) : Nat := min (if bothStrobes st then 2 else 1) available

/-- The halfword that answers a Stream Data read from the bytes taken (R119). -/
def streamHalf (st : Strobes) (bytes : List Byte) : Half :=
  if bothStrobes st then (bytes[1]?).getD 0xFF#8 ++ (bytes[0]?).getD 0xFF#8
  else if st.hub then (bytes[0]?).getD 0xFF#8 ++ 0xFF#8
  else 0xFF#8 ++ (bytes[0]?).getD 0xFF#8

/-! ### Results (R178) -/

/-- The result field's code (R178). -/
def Result.code : Result → BitVec 5
  | .ok => 0 | .busy => 1 | .badField => 2 | .badState => 3 | .notPermitted => 4 | .overlap => 5
  | .misaligned => 6 | .pendingWork => 7 | .empty => 8 | .stale => 9 | .notYet => 10 | .full => 11
  | .notEnabled => 12 | .badRing => 13 | .badMark => 14 | .notRunning => 15 | .noMessage => 16
  | .notReady => 17 | .notDrained => 18

end Sys2Proof.Machine
end

