-- ==== Sys2Proof/Machine/Ops.lean ====
section
/-! DEFINITION. Named operations shared by the meanings: the host transaction, fault records, latched events,
prefetch lines, entries of the Aperture Table, accepted values and command results. -/

namespace Sys2Proof.Machine

/-! ### The host transaction and the Stall Monitor (R84, R85) -/

/-- Whether a host transaction is held in wait (R28, R45, R85, R110, R120). -/
def State.hostHeld (s : State) : Bool :=
  decide (s.pwq.held ≠ .none) || s.slot.record.isSome || s.inb.held.isSome || s.outb.held.isSome

/-- Answer a host transaction at once, without HWAIT (R15, R175). -/
def State.reply (r : HostReply) (s : State) : State := { s with hostReply := r }

/-- End a host transaction held in wait: HWAIT is deasserted and the stall timer stops (R84). -/
def State.releaseHost (r : HostReply) (s : State) : State := { s with hostReply := r, stall := none }

/-- Hold the host in wait: the timer starts with the STALL_LIMIT in force unless that is 0 (R84). -/
def State.holdHost (h : Holder) (s : State) : State :=
  { s with
    hostReply := .held
    stall := if s.settings.stallLimit = 0#12 then s.stall
             else some { holder := h, timer := { start := s.now, limit := s.settings.stallLimit.toNat } } }

/-- The filler answer (R100). -/
def fillerReply : HostReply := .read Config.filler

/-- The moment is at least the timer's limit after its start: what an expiry says of the time (00_scope, section
7; log entry 2). -/
def State.reach (t : Timer) (s : State) : State := { s with now := max s.now (t.start + t.limit) }

/-! ### Fault records (R91) -/

/-- Hand a fault record to the fault unit (R91). -/
def State.fault (r : FaultRecord) (s : State) : State :=
  if s.faults.queue.length < Config.faultDepth then
    { s with faults := { s.faults with queue := s.faults.queue ++ [r] } }
  else { s with faults := { s.faults with lost := satInc s.faults.lost } }

/-! ### Latched events (R145, R149) -/

/-- Latch host ANSWER (R144). -/
def State.latchAnswer (s : State) : State :=
  { s with events := { s.events with host := { s.events.host with answer := true } } }

/-- Latch host ATTENTION (R156). -/
def State.latchHostAttention (s : State) : State :=
  { s with events := { s.events with host := { s.events.host with attention := true } } }

/-- Latch host POWER (R161). -/
def State.latchPower (s : State) : State :=
  { s with events := { s.events with host := { s.events.host with power := true } } }

/-- Latch local ATTENTION (R156). -/
def State.latchAttention (s : State) : State :=
  { s with events := { s.events with loc := { s.events.loc with attention := true } } }

/-- Latch local QUIESCE (R163). -/
def State.latchQuiesce (s : State) : State :=
  { s with events := { s.events with loc := { s.events.loc with quiesce := true } } }

/-- Latch local CANCEL (R163). -/
def State.latchCancel (s : State) : State :=
  { s with events := { s.events with loc := { s.events.loc with cancel := true } } }

/-- Latch local WAKE (R167). -/
def State.latchWake (s : State) : State :=
  { s with events := { s.events with loc := { s.events.loc with wake := true } } }

/-- Latch local GRANT_SLOW (R76). -/
def State.latchGrantSlow (s : State) : State :=
  { s with events := { s.events with loc := { s.events.loc with grantSlow := true } } }

/-- Latch local TABLE (R12, R13). -/
def State.latchTable (s : State) : State :=
  { s with events := { s.events with loc := { s.events.loc with table := true } } }

/-- Latch local MARK_TAKEN (R121). -/
def State.latchMarkTaken (s : State) : State :=
  { s with events := { s.events with loc := { s.events.loc with markTaken := true } } }

/-- Latch local DATAPATH_DONE (R173). -/
def State.latchDatapathDone (s : State) : State :=
  { s with events := { s.events with loc := { s.events.loc with datapathDone := true } } }

/-! ### Accepted values (R126, R131) -/

/-- The fields of a negotiated setting. -/
def Settings.neg (g : Settings) : NegSetting → Negotiated
  | .attentionRoute => g.s4
  | .streamEnable => g.s5
  | .tableRights => g.s6
  | .linePermit => g.s7

/-- Store the fields of a negotiated setting. -/
def Settings.setNeg (g : Settings) (n : NegSetting) (v : Negotiated) : Settings :=
  match n with
  | .attentionRoute => { g with s4 := v }
  | .streamEnable => { g with s5 := v }
  | .tableRights => { g with s6 := v }
  | .linePermit => { g with s7 := v }

/-- STREAM_ENABLE has the accepted value 1. -/
def State.streamEnabled (s : State) : Bool := decide (s.settings.s5.accepted = 1#4)

/-- TABLE_RIGHTS has the accepted value 1. -/
def State.tableRights (s : State) : Bool := decide (s.settings.s6.accepted = 1#4)

/-- LINE_PERMIT has the accepted value 1. -/
def State.linePermit (s : State) : Bool := decide (s.settings.s7.accepted = 1#4)

/-! ### Prefetch lines (R53, R54) -/

/-- The line's local line address, while it has one. -/
def Line.addr? : Line → Option Word
  | .invalid => none
  | .filling _ _ a => some a
  | .valid _ a _ _ => some a

/-- The line's filling entry index, while it has one. -/
def Line.entry? : Line → Option EntryIdx
  | .invalid => none
  | .filling _ e _ => some e
  | .valid e _ _ _ => some e

/-- Whether the line covers a local word (R53). -/
def Line.covers (l : Line) (w : Word) : Bool := decide (l.addr? = some (lineAddr w))

/-- Whether the line was filled through an entry (R54). -/
def Line.filledBy (l : Line) (e : EntryIdx) : Bool := decide (l.entry? = some e)

/-- An invalidation cause acting on a line it names: VALID becomes INVALID, FILLING is spoiled (R54). -/
def Line.strike : Line → Line
  | .invalid => .invalid
  | .filling _ e a => .filling true e a
  | .valid _ _ _ _ => .invalid

/-- Strike the lines a cause names (R54). -/
def LineSet.strikeIf (p : Line → Bool) (ls : LineSet) : LineSet :=
  { ls with line0 := if p ls.line0 then ls.line0.strike else ls.line0,
            line1 := if p ls.line1 then ls.line1.strike else ls.line1 }

/-- A line by its number. -/
def LineSet.line (ls : LineSet) (i : LineIdx) : Line := if i = 0 then ls.line0 else ls.line1

/-- Store a line by its number. -/
def LineSet.setLine (ls : LineSet) (i : LineIdx) (l : Line) : LineSet :=
  if i = 0 then { ls with line0 := l } else { ls with line1 := l }

/-- The cause that names every line covering a word (R33, R54). -/
def State.strikeWord (w : Word) (s : State) : State :=
  { s with lineset := s.lineset.strikeIf (fun l => l.covers w) }

/-- The cause that names every line covering any of some words (R113). -/
def State.strikeWords (ws : List Word) (s : State) : State :=
  { s with lineset := s.lineset.strikeIf (fun l => ws.any (fun w => l.covers w)) }

/-- The cause that names every line filled through an entry (R7, R9, R13). -/
def State.strikeEntry (e : EntryIdx) (s : State) : State :=
  { s with lineset := s.lineset.strikeIf (fun l => l.filledBy e) }

/-- The cause that names both lines (R54, R55). -/
def State.strikeAll (s : State) : State := { s with lineset := s.lineset.strikeIf (fun _ => true) }

/-! ### Entries of the Aperture Table (R1, R12 to R14, R18, R22, R23) -/

/-- What a live entry holds, none while EMPTY (R1). -/
def State.live (s : State) (e : EntryIdx) : Option LiveEntry := s.table.entries[e].live

/-- Store what an entry holds; host-editable is kept (R2). -/
def State.setLive (e : EntryIdx) (l : Option LiveEntry) (s : State) : State :=
  { s with table := { s.table with entries := s.table.entries.set e { s.table.entries[e] with live := l } } }

/-- Whether an entry is OPEN (R14, R23). -/
def State.isOpen (s : State) (e : EntryIdx) : Bool :=
  match s.live e with
  | some l => decide (l.phase = .opened)
  | none => false

/-- Count a refused access, if the entry is SUSPENDED or DRAINING (R14, R18). -/
def State.countRefused (e : EntryIdx) (s : State) : State :=
  match s.live e with
  | some l => if l.phase = .opened then s else s.setLive e (some { l with refused := satInc l.refused })
  | none => s

/-- Slide the entry if it is OPEN with slide ON and the word touched is its final word (R22, R23). -/
def State.slideAt (e : EntryIdx) (w : Word) (s : State) : State :=
  match s.live e with
  | some l =>
    if l.phase = .opened ∧ l.ap.slide = true ∧ w = l.ap.finalWord then
      s.setLive e (some { l with ap := l.ap.slid, slideCount := l.slideCount + 1 })
    else s
  | none => s

/-- All entry indices, lowest first. -/
def allEntries : List EntryIdx := [0, 1, 2, 3, 4, 5, 6, 7]

/-- The entry that covers a host address, with what it holds; at most one can (R6, R15). -/
def State.covering (s : State) (a : HostAddr) : Option (EntryIdx × LiveEntry) :=
  allEntries.findSome? (fun e =>
    match s.live e with
    | some l => if l.ap.covers a then some (e, l) else none
    | none => none)

/-- The hold of an entry as it stands, 0 while EMPTY (R67). -/
def State.entryHold (s : State) (e : EntryIdx) : Nat :=
  match s.live e with
  | some l => l.ap.hold.toNat
  | none => 0

/-! ### The Posted Write Queue's report (R38) -/

/-- Whether the queue holds a record of an entry (R38). -/
def State.hasRecord (s : State) (e : EntryIdx) : Bool := s.pwq.records.any (fun r => decide (r.entry = e))

/-- Whether a write of an entry is held in SLOT_WAIT (R38). -/
def State.slotWaiting (s : State) (e : EntryIdx) : Bool :=
  match s.pwq.held with
  | .slotWait w => decide (w.entry = e)
  | _ => false

/-- Pending work of an entry for RETARGET (R9). -/
def State.pendingWork (s : State) (e : EntryIdx) : Bool :=
  s.hasRecord e || s.slotWaiting e ||
  (s.slot.record.any (fun r => decide (r.entry = e))) || (s.slot.orphan.any (fun o => decide (o.entry = e)))

/-! ### Power (R16, R130, R167) -/

/-- The datapath admits new host work: ACTIVE and no datapath reset in progress (R16, R109, R119). -/
def State.serving (s : State) : Bool := decide (s.power.state = .active) && !s.power.resetBusy

/-- A wake source arriving: it wakes a DORMANT module. Every cause but HOST_REQUEST sets S1 to ACTIVE and latches
host POWER (R130, R167). -/
def State.wakeBy (c : WakeCause) (s : State) : State :=
  if s.power.state = .dormant then
    let s1 := ({ s with power := { s.power with state := .waking, cause := some c } }).latchWake
    if c = .hostRequest then s1
    else ({ s1 with settings := { s1.settings with powerLow := false } }).latchPower
  else s

/-- A host access offered as a wake source (R16, R109, R119, R167). -/
def State.offerAccess (s : State) : State := if s.power.wakeOnAccess then s.wakeBy .hostAccess else s

/-! ### Command results (R178) -/

/-- Write a window's table command result (R5). -/
def State.tableResult (w : Window) (r : Result) (s : State) : State :=
  match w with
  | .host => { s with table := { s.table with hostResult := r } }
  | .loc => { s with table := { s.table with localResult := r } }

/-- Write a window's pop result (R93). -/
def State.popResult (w : Window) (r : Result) (s : State) : State :=
  match w with
  | .host => { s with faults := { s.faults with hostResult := r } }
  | .loc => { s with faults := { s.faults with localResult := r } }

/-- Write the host note command result (R154). -/
def State.noteResult (r : Result) (s : State) : State := { s with events := { s.events with noteResult := r } }

/-- Write the host stream command result (R114). -/
def State.hostStreamResult (r : Result) (s : State) : State :=
  { s with stream := { s.stream with hostResult := r } }

/-- Write the local stream command result (section 6.2). -/
def State.localStreamResult (r : Result) (s : State) : State :=
  { s with stream := { s.stream with localResult := r } }

/-- Write the answer register result (R135). -/
def State.answerResult (r : Result) (s : State) : State :=
  { s with settings := { s.settings with answerResult := r } }

/-- Write the power command result (R161). -/
def State.powerResult (r : Result) (s : State) : State := { s with power := { s.power with result := r } }

/-- Write the datapath reset command result (R172). -/
def State.resetResult (r : Result) (s : State) : State := { s with power := { s.power with resetResult := r } }

/-- Write the INVALIDATE_LINES command result (R54). -/
def State.lineResult (r : Result) (s : State) : State := { s with lineset := { s.lineset with result := r } }

/-! ### Which accesses are taken (R84, R170, R175, R176) -/

/-- A host write access: discarded while PON is asserted (R170). While the host is held in wait no other host
access reaches the bridge, so nothing changes (R84; log entry 3). -/
def hostWrite (f : State → State) (s : State) : State :=
  if s.pins.pon then s.reply .written
  else if s.hostHeld then s
  else f (s.reply .written)

/-- A host read access: answered with filler while PON is asserted (R170), and as `hostWrite` while held. -/
def hostRead (f : State → State) (s : State) : State :=
  if s.pins.pon then s.reply fillerReply
  else if s.hostHeld then s
  else f s

/-- Whether the local window takes accesses: PON deasserted and MODULE_RESET 0 (R170, R176). -/
def State.localOpen (s : State) : Bool := !s.pins.pon && !s.settings.moduleReset

/-- A local window write: ignored while MODULE_RESET is 1 or PON is asserted (R170, R176). -/
def localWrite (f : State → State) (s : State) : State := if s.localOpen then f s else s

/-- A line change or the expiry of a timer: not taken while PON is asserted (R170). -/
def unlessPon (f : State → State) (s : State) : State := if s.pins.pon then s else f s

/-- An end of a held Stream Data access other than by the Stall Monitor: while a datapath reset is in progress the host
stays held, to be released by the Stall Monitor or the carrying out (R124, R172; over R110 and R120: log entry 21). -/
def unlessResetting (f : State → State) (s : State) : State := if s.power.resetBusy then s else f s

end Sys2Proof.Machine
end

