-- ==== Sys2Proof/Machine/Flags.lean ====
section
/-! DEFINITION. Conditions, event words, summaries and output lines: everything the Event Unit and the lines show,
computed from the state they follow (R144 to R151, R160, R171). -/

namespace Sys2Proof.Machine

/-! ### Stream quantities -/

/-- Occupancy of the inbound ring (R104). -/
def Inbound.occupancy (c : Inbound) : Nat := ringDist (ringSize c.size) c.consume c.produce

/-- Free space of the inbound ring (R111). -/
def Inbound.ringFree (c : Inbound) : Nat := ringSize c.size - c.occupancy

/-- Room in the inbound FIFO. -/
def Inbound.room (c : Inbound) : Nat := Config.fifoDepth - c.fifo.length

/-- The inbound FIFO's free room as shown: 0 while OFF or HALTED (R122). -/
def Inbound.freeRoom (c : Inbound) : Nat :=
  match c.state with
  | .running => c.room
  | .flushing => c.room
  | .off => 0
  | .halted => 0

/-- The limit of the outbound channel: the head mark, or OUT_PRODUCE when there is none (R116). -/
def Outbound.limit (c : Outbound) : Nat := c.marks.headD c.produce

/-- The bytes available to the reader (R116). -/
def Outbound.available (c : Outbound) : Nat := ringDist (ringSize c.size) c.consume c.limit

/-- The bytes available to fetch (R116). -/
def Outbound.fetchable (c : Outbound) : Nat := ringDist (ringSize c.size) c.fetch c.limit

/-- Room in the outbound FIFO. -/
def Outbound.room (c : Outbound) : Nat := Config.fifoDepth - c.fifo.length

/-- AT_END (R121). -/
def Outbound.atEnd (c : Outbound) : Bool :=
  match c.marks with
  | m :: _ => c.fifo.isEmpty && decide (c.consume = m)
  | [] => false

/-! ### Conditions (R146, R149) -/

/-- FAULT of both sets (R95). -/
def State.condFault (s : State) : Bool := !s.faults.queue.isEmpty

/-- NOTE (R146). -/
def State.condNote (s : State) : Bool := !s.events.notes.isEmpty

/-- IN_SPACE (R122). -/
def State.condInSpace (s : State) : Bool :=
  decide (s.inb.state = .running) && decide (s.stream.inThreshold.toNat ≤ s.inb.freeRoom)

/-- OUT_DATA (R122): RUNNING with at least OUT_THRESHOLD bytes, or AT_END. -/
def State.condOutData (s : State) : Bool :=
  (decide (s.outb.state = .running) && decide (s.stream.outThreshold.toNat ≤ s.outb.fifo.length)) || s.outb.atEnd

/-- ATTENTION_LEVEL: the route is MIRROR and LATN is asserted (R144, R156, R157). -/
def State.condAttentionLevel (s : State) : Bool :=
  decide (s.settings.s4.accepted = Config.routeMirror) && s.pins.latn

/-- PROPOSAL (R134). -/
def State.condProposal (s : State) : Bool := !s.settings.proposals.isEmpty

/-- NOTICE (R129). -/
def State.condNotice (s : State) : Bool :=
  s.settings.notices.s0 || s.settings.notices.s1 || s.settings.notices.s2 || s.settings.notices.s3

/-- IN_MESSAGE: the head boundary record is VISIBLE (R115). -/
def State.condInMessage (s : State) : Bool :=
  match s.inb.boundaries with
  | b :: _ => b.visible
  | [] => false

/-! ### Event words and summaries (R144, R148, R149, R151) -/

/-- The host event set: bit 0 ANSWER, ATTENTION, POWER, FAULT, NOTE, IN_SPACE, OUT_DATA, AT_END, ATTENTION_LEVEL
(R144). -/
def State.hostEventWord (s : State) : BitVec 9 :=
  bit s.condAttentionLevel ++ bit s.outb.atEnd ++ bit s.condOutData ++ bit s.condInSpace ++ bit s.condNote ++
  bit s.condFault ++ bit s.events.host.power ++ bit s.events.host.attention ++ bit s.events.host.answer

/-- The host summary: set or true, and enabled (R148). -/
def State.hintSummary (s : State) : BitVec 9 := s.hostEventWord &&& s.settings.eventEnable

/-- The local event set: bit 0 ATTENTION, QUIESCE, CANCEL, WAKE, GRANT_SLOW, TABLE, MARK_TAKEN, DATAPATH_DONE,
PROPOSAL, NOTICE, FAULT, IN_MESSAGE (R149, section 10.5). -/
def State.localEventWord (s : State) : BitVec 12 :=
  bit s.condInMessage ++ bit s.condFault ++ bit s.condNotice ++ bit s.condProposal ++
  bit s.events.loc.datapathDone ++ bit s.events.loc.markTaken ++ bit s.events.loc.table ++
  bit s.events.loc.grantSlow ++ bit s.events.loc.wake ++ bit s.events.loc.cancel ++ bit s.events.loc.quiesce ++
  bit s.events.loc.attention

/-- The local summary (R151). -/
def State.lintSummary (s : State) : BitVec 12 := s.localEventWord &&& s.events.mask

/-! ### Output lines; during power-on reset as R170 states -/

/-- HINT (R148, R170). -/
def State.hint (s : State) : Bool := !s.pins.pon && decide (s.hintSummary ≠ 0#9)

/-- LINT (R151, R170). -/
def State.lint (s : State) : Bool := !s.pins.pon && decide (s.lintSummary ≠ 0#12)

/-- HREADY signals ready in ACTIVE and DORMANT (R160). -/
def State.hready (s : State) : Bool :=
  !s.pins.pon && (decide (s.power.state = .active) || decide (s.power.state = .dormant))

/-- LPWR (R160). -/
def State.lpwr (s : State) : Bool := !s.pins.pon && decide (s.power.state = .dormant)

/-- LRST is asserted while MODULE_RESET is 1 (R171, R176). -/
def State.lrst (s : State) : Bool := !s.pins.pon && s.settings.moduleReset

/-- HWAIT (R28, R45, R110, R120). -/
def State.hwait (s : State) : Bool := !s.pins.pon && s.hostHeld

/-- LBREQ is asserted in every ownership state except RELEASED (R68). -/
def State.lbreq (s : State) : Bool := !s.pins.pon && decide (s.master.own ≠ .released)

/-- LURG: asserted at the expiry of the grant patience timer until the request ends (R76). -/
def State.lurg (s : State) : Bool :=
  !s.pins.pon &&
  match s.master.own with
  | .requesting _ .expired => true
  | _ => false

/-- The beat presented: its word address, LBE and LD (R65); none while PON is asserted (R170). -/
def State.beatShown (s : State) : Option (Word × BitVec 4 × Word) :=
  if s.pins.pon then none
  else match s.master.transfer with
    | some x => (x.beats[x.beatsDone]?).map (fun b => (x.first + BitVec.ofNat 32 (4 * x.beatsDone), b.lbe, b.ld))
    | none => none

end Sys2Proof.Machine
end

