-- ==== Sys2Proof/Machine/Queue.lean ====
section
/-! DEFINITION. The Posted Write Queue: combining, admission, the held write and what a leaving record does to its
entry (R12, R14, R26 to R34). -/

namespace Sys2Proof.Machine

/-- Whether a write combines into the tail record (R30). -/
def canCombine (w : HostWrite) (t : WriteRecord) : Bool :=
  w.combine && !w.strict && decide (t.entry = w.entry) && decide (t.word = w.word) && !t.strict && !t.inFlight &&
  decide (t.mask &&& w.mask = 0#4)

/-- The tail record with the write's lanes and bytes added (R30). -/
def mergeWrite (w : HostWrite) (t : WriteRecord) : WriteRecord :=
  { t with mask := t.mask ||| w.mask, data := t.data ||| w.data }

/-- The records with the write combined into the tail, when it can combine (R30). -/
def combineTail (w : HostWrite) : List WriteRecord → Option (List WriteRecord)
  | [] => none
  | [t] => if canCombine w t then some [mergeWrite w t] else none
  | r :: t :: rs => (combineTail w (t :: rs)).map (fun l => r :: l)

/-- The record a write makes (R29). -/
def newRecord (w : HostWrite) (seq : BitVec 8) : WriteRecord :=
  { seq := seq, entry := w.entry, hostAddr := w.hostAddr, word := w.word, mask := w.mask, data := w.data,
    strict := w.strict, inFlight := false }

/-- What every admission does in the same event: the line invalidation cause for the word, and the slide (R22,
R29, R33). -/
def State.admitted (w : HostWrite) (s : State) : State := (s.strikeWord w.word).slideAt w.entry w.word

/-- Admission of a write: combined, or as a new record while fewer than 16 are held; none when it must wait for a
slot (R29 to R31). -/
def State.place (w : HostWrite) (s : State) : Option State :=
  match combineTail w s.pwq.records with
  | some rs => some (({ s with pwq := { s.pwq with records := rs } }).admitted w)
  | none =>
    if s.pwq.records.length < Config.pwqDepth then
      some (({ s with pwq := { s.pwq with records := s.pwq.records ++ [newRecord w s.pwq.seq],
                                          seq := s.pwq.seq + 1 } }).admitted w)
    else none

/-- Store the held-write record (R28). -/
def State.setHeld (h : HeldWrite) (s : State) : State := { s with pwq := { s.pwq with held := h } }

/-- A classified write reaching the queue (R29 to R31, R34). The host has been answered by the access; a STRICT
write and a write without a slot hold it instead. -/
def State.offerWrite (w : HostWrite) (s : State) : State :=
  match s.place w with
  | some t => if w.strict then (t.setHeld (.recordWait s.pwq.seq)).holdHost .pwq else t
  | none => (s.setHeld (.slotWait w)).holdHost .pwq

/-- End a write in SLOT_WAIT whose entry has left OPEN: discarded, the host released, the refusal counted (R14). -/
def State.endWaiting (w : HostWrite) (s : State) : State :=
  ((s.setHeld .none).releaseHost .written).countRefused w.entry

/-- Retry a write in SLOT_WAIT after a record has left, or end it when its entry has left OPEN (R14, R32). -/
def State.retryWaiting (s : State) : State :=
  match s.pwq.held with
  | .slotWait w =>
    if s.isOpen w.entry then
      match s.place w with
      | some t =>
        if w.strict then t.setHeld (.recordWait s.pwq.seq) else (t.setHeld .none).releaseHost .written
      | none => s
    else s.endWaiting w
  | .recordWait _ => s
  | .none => s

/-- Release a host held in RECORD_WAIT on one of some sequence numbers (R36, R37). -/
def State.releaseWaiter (seqs : List (BitVec 8)) (s : State) : State :=
  match s.pwq.held with
  | .recordWait q => if seqs.contains q then (s.setHeld .none).releaseHost .written else s
  | .slotWait _ => s
  | .none => s

/-- After a record of an entry has left: a DRAINING entry with no other record becomes EMPTY, and TABLE is latched
(R12). -/
def State.afterLeave (e : EntryIdx) (s : State) : State :=
  match s.live e with
  | some l => if l.phase = .draining ∧ s.hasRecord e = false then (s.setLive e none).latchTable else s
  | none => s

end Sys2Proof.Machine
end

