-- ==== Sys2Proof/Machine/Slot.lean ====
section
/-! DEFINITION. The Read Slot and the prefetch lines: hits, ordering, the choice of a line, and what the end of a
read's transfer does (R44 to R59). -/

namespace Sys2Proof.Machine

/-- The word a VALID line serves to a read of an entry, if the read hits it (R46). -/
def Line.serves (l : Line) (e : EntryIdx) (w : Word) : Option Word :=
  match l with
  | .valid f a d _ => if f = e ∧ a = lineAddr w then some (d.getD (lineWord w) 0) else none
  | .filling _ _ _ => none
  | .invalid => none

/-- The word either line serves (R46). -/
def LineSet.serves (ls : LineSet) (e : EntryIdx) (w : Word) : Option Word :=
  match ls.line0.serves e w with
  | some d => some d
  | none => ls.line1.serves e w

/-- Store the host read record. -/
def State.setRead (r : Option ReadRecord) (s : State) : State := { s with slot := { s.slot with record := r } }

/-- Store the orphan. -/
def State.setOrphan (o : Option Orphan) (s : State) : State := { s with slot := { s.slot with orphan := o } }

/-- Store a line. -/
def State.setLine (i : LineIdx) (l : Line) (s : State) : State := { s with lineset := s.lineset.setLine i l }

/-- Answer the held read from a word: the record leaves and the entry slides if R23 requires it (R49, R50, R52). -/
def State.answerRead (r : ReadRecord) (data : Word) (s : State) : State :=
  ((s.setRead none).releaseHost (.read (r.lanes.answer data))).slideAt r.entry r.word

/-- End the held read with filler (R51, R57, R58, R61). -/
def State.fillRead (s : State) : State := (s.setRead none).releaseHost fillerReply

/-- The test of the ordering condition: with the PWQ empty and no orphan, a LINE record that has become a hit is
answered, and any other moves to BUS_WAIT (R47, R52). -/
def State.testOrder (s : State) : State :=
  match s.slot.record with
  | some r =>
    if r.phase = .orderWait ∧ s.pwq.records = [] ∧ s.slot.orphan = none then
      match (if r.kind = .line ∧ s.linePermit = true then s.lineset.serves r.entry r.word else none) with
      | some d => s.answerRead r d
      | none => s.setRead (some { r with phase := .busWait })
    else s
  | none => s

/-- An admitted read reaching the Line Set: answered from a line, or entered in the slot (R46, R47). -/
def State.offerRead (r : ReadRecord) (s : State) : State :=
  match (if r.kind = .line then s.lineset.serves r.entry r.word else none) with
  | some d => (s.reply (.read (r.lanes.answer d))).slideAt r.entry r.word
  | none => ((s.setRead (some r)).holdHost .readSlot).testOrder

/-- A read of an entry in ORDER_WAIT is answered with filler when the entry is suspended (R57). -/
def State.fillSuspended (e : EntryIdx) (s : State) : State :=
  match s.slot.record with
  | some r => if r.phase = .orderWait ∧ r.entry = e then s.fillRead else s
  | none => s

/-- The line a fill takes: an INVALID one, line 0 first; otherwise the VALID line filled earlier, line 0 when equal
(R48). With a line FILLING, which no run reaches at an issue, the other line (log entry 9). -/
def LineSet.choose (ls : LineSet) : LineIdx :=
  match ls.line0, ls.line1 with
  | .invalid, _ => 0
  | .valid _ _ _ _, .invalid => 1
  | .filling _ _ _, .invalid => 1
  | .valid _ _ _ t0, .valid _ _ _ t1 => if t1 < t0 then 1 else 0
  | .filling _ _ _, .valid _ _ _ _ => 1
  | .valid _ _ _ _, .filling _ _ _ => 0
  | .filling _ _ _, .filling _ _ _ => 0

/-- The origin of a read's fault records (R51). -/
def ReadKind.origin : ReadKind → FaultOrigin
  | .single => .hostRead
  | .line => .lineFill

/-- The local address of a read's fault records: the word, or the line address (R51, R89). -/
def ReadRecord.faultAddr (r : ReadRecord) : Word :=
  match r.kind with
  | .single => r.word
  | .line => lineAddr r.word

/-- The end of a successful fill for its line: VALID with the words now, or INVALID if spoiled (R50, R59). -/
def Line.filled (words : List Word) (now : Nat) : Line → Line
  | .filling false e a => .valid e a words now
  | .filling true _ _ => .invalid
  | .valid e a d t => .valid e a d t
  | .invalid => .invalid

/-- The end of a successful fill (R50, R59). -/
def State.fillLine (i : Option LineIdx) (words : List Word) (s : State) : State :=
  match i with
  | some i => s.setLine i ((s.lineset.line i).filled words s.now)
  | none => s

/-- The end of a failed fill: its line becomes INVALID (R51, R59). -/
def State.dropLine (i : Option LineIdx) (s : State) : State :=
  match i with
  | some i => s.setLine i .invalid
  | none => s

/-- The word of a fill that the read asked for, or the word of a single read (R49, R50). -/
def ReadRecord.wanted (r : ReadRecord) (words : List Word) : Word :=
  match r.kind with
  | .single => words.getD 0 0
  | .line => words.getD (lineWord r.word) 0

/-- The successful end of the record's transfer (R49, R50). -/
def State.readDone (r : ReadRecord) (words : List Word) (s : State) : State :=
  (s.fillLine r.line words).answerRead r (r.wanted words)

/-- The failed end of the record's transfer (R51). -/
def State.readFailed (r : ReadRecord) (k : FaultKind) (s : State) : State :=
  ((s.dropLine r.line).fillRead).fault
    { kind := k, origin := r.kind.origin, direction := .read, entry := some r.entry, hostAddr := some r.hostAddr,
      localAddr := some r.faultAddr, seq := none, dropped := none, inFlight := none }

/-- The successful end of the orphan's transfer (R59). -/
def State.orphanDone (o : Orphan) (words : List Word) (s : State) : State :=
  ((s.fillLine o.line words).setOrphan none).testOrder

/-- The failed end of the orphan's transfer; `addr` is the transfer's first word address (R59, R90). -/
def State.orphanFailed (o : Orphan) (k : FaultKind) (addr : Word) (s : State) : State :=
  (((s.dropLine o.line).setOrphan none).fault
    { kind := k, origin := o.kind.origin, direction := .read, entry := some o.entry, hostAddr := none,
      localAddr := some addr, seq := none, dropped := none, inFlight := none }).testOrder

end Sys2Proof.Machine
end

