-- ==== Sys2Proof/Machine/Failure.lean ====
section
/-! DEFINITION. The end of a PWQ record's beat: completion (R36) and the failure handling (R37, R96, R97). -/

namespace Sys2Proof.Machine

/-- The in-flight head completes (R36): it leaves, a host held on it is released, its DRAINING entry may become
EMPTY, a waiting write is retried and a waiting read is tested (R47). -/
def State.completeHead (s : State) : State :=
  match s.pwq.records with
  | r :: rest =>
    ((((({ s with pwq := { s.pwq with records := rest } }).releaseWaiter [r.seq]).afterLeave r.entry).retryWaiting).testOrder)
  | [] => s

/-- What a failure does to the failed record's entry: OPEN becomes SUSPENDED, DRAINING becomes EMPTY; TABLE is
latched and the entry's lines are struck (R13, R97). -/
def State.failEntry (e : EntryIdx) (s : State) : State :=
  (match s.live e with
   | some l =>
     match l.phase with
     | .opened => s.setLive e (some { l with phase := .suspended })
     | .draining => s.setLive e none
     | .suspended => s
   | none => s).latchTable.strikeEntry e

/-- Whether an entry is SUSPENDED. -/
def State.isSuspended (s : State) (e : EntryIdx) : Bool :=
  match s.live e with
  | some l => decide (l.phase = .suspended)
  | none => false

/-- The fault record of a failed PWQ record (R90, R96). -/
def writeFault (r : WriteRecord) (k : FaultKind) (dropped : Nat) : FaultRecord :=
  { kind := k, origin := if r.strict then .strictWrite else .postedWrite, direction := .write,
    entry := some r.entry, hostAddr := some r.hostAddr, localAddr := some r.word, seq := some r.seq,
    dropped := some (BitVec.ofNat 4 dropped), inFlight := none }

/-- The failure handling of the in-flight head (R96, R97): the record and its siblings leave, one fault record is
made, the entry and its lines take the failure, waiters are released, ended or retried, and reads are tested. -/
def State.failHead (k : FaultKind) (s : State) : State :=
  match s.pwq.records with
  | r :: rest =>
    let siblings := rest.filter (fun q => decide (q.entry = r.entry))
    let others := rest.filter (fun q => !decide (q.entry = r.entry))
    let s1 := ({ s with pwq := { s.pwq with records := others } }).fault (writeFault r k siblings.length)
    let s2 := s1.failEntry r.entry
    let s3 := (s2.releaseWaiter (r.seq :: siblings.map (·.seq))).retryWaiting
    (if s3.isSuspended r.entry then s3.fillSuspended r.entry else s3).testOrder
  | [] => s

end Sys2Proof.Machine
end

