-- ==== Sys2Proof/Machine/Inbound.lean ====
section
/-! DEFINITION. The inbound stream channel: accepted bytes, the held write, moves, messages and channel commands
(R103 to R115). -/

namespace Sys2Proof.Machine

/-- Store the inbound channel. -/
def State.setInb (c : Inbound) (s : State) : State := { s with inb := c }

/-- Set the REFUSED flag (R109, R110, R119, R120). -/
def State.flagRefused (s : State) : State := { s with stream := { s.stream with refused := true } }

/-- Set the DROPPED flag (R109). -/
def State.flagDropped (s : State) : State := { s with stream := { s.stream with dropped := true } }

/-- Mark the current message DAMAGED (R109). -/
def State.damage (s : State) : State := { s with inb := { s.inb with damaged := true } }

/-- Entering bytes appended at the FIFO's tail: the message grows, and the linger timer starts when the FIFO was
empty (R109, R111). -/
def State.enterBytes (bytes : List Byte) (s : State) : State :=
  { s with inb := { s.inb with
      fifo := s.inb.fifo ++ bytes
      msgLen := s.inb.msgLen + bytes.length
      linger := if s.inb.fifo = [] ∧ bytes ≠ [] then .running s.now else s.inb.linger } }

/-- Step 3 of R109: bytes dropped, message DAMAGED, DROPPED set. -/
def State.dropBytes (s : State) : State := s.damage.flagDropped

/-- An accepted Stream Data write (R109): the bytes past the longest message are discarded, the rest enter, are
dropped, or hold the host. -/
def State.acceptBytes (bytes : List Byte) (s : State) : State :=
  let entering := bytes.take (Config.maxMessage - s.inb.msgLen)
  let s1 := if entering.length < bytes.length then s.damage else s
  if entering.length ≤ s1.inb.room then s1.enterBytes entering
  else if s1.inb.drop then s1.dropBytes
  else (s1.setInb { s1.inb with held := some entering }).holdHost .inbound

/-- Retry the held write after a move: it enters when the FIFO has room for all its bytes (R110). -/
def State.retryStream (s : State) : State :=
  match s.inb.held with
  | some bytes =>
    if bytes.length ≤ s.inb.room then ((s.setInb { s.inb with held := none }).enterBytes bytes).releaseHost .written
    else s
  | none => s

/-- End the held write because the channel leaves RUNNING: DAMAGED, REFUSED, released (R110). -/
def State.endHeldStream (s : State) : State :=
  match s.inb.held with
  | some _ => ((((s.setInb { s.inb with held := none }).damage).flagRefused).releaseHost .written)
  | none => s

/-- End the held write because IN_MODE is written DROP (R110). -/
def State.dropHeldStream (s : State) : State :=
  match s.inb.held with
  | some _ => (((s.setInb { s.inb with held := none }).dropBytes).releaseHost .written)
  | none => s

/-- The channel becomes OFF: the current message length and its DAMAGED mark become 0 (R106). -/
def Inbound.turnOff (c : Inbound) : Inbound := { c with state := .off, msgLen := 0, damaged := false }

/-! ### Moves (R111 to R113) -/

/-- The channel's own conditions for a move to be due (R111). -/
def Inbound.moveReady (c : Inbound) : Bool :=
  (decide (c.state = .running) || decide (c.state = .flushing)) &&
  !c.fifo.isEmpty && decide (1 ≤ c.ringFree) &&
  (decide (Config.runBytes ≤ c.fifo.length) || c.boundaries.any (fun b => !b.visible) ||
   decide (c.linger = .passed) || decide (c.state = .flushing))

/-- The local address of a move's start (R112). -/
def Inbound.moveAddr (c : Inbound) : Word := ringAddr c.base (ringSize c.size) c.produce

/-- The offset of a run's start in its first word. -/
def skipOf (a : Word) : Nat := a.toNat % 4

/-- The length of a move (R112). -/
def Inbound.moveLen (c : Inbound) : Nat :=
  min c.fifo.length (min Config.runBytes (min c.ringFree
    (min (ringSize c.size - c.produce % ringSize c.size) (Config.runBytes - skipOf c.moveAddr))))

/-- The boundary list after IN_PRODUCE advances from `old` by `n`: every record whose end position has been reached
is VISIBLE (R113, R115). -/
def reachBoundaries (size old n : Nat) (bs : List Boundary) : List Boundary :=
  bs.map (fun b => if !b.visible && decide (ringDist size old b.endPos ≤ n) then { b with visible := true } else b)

/-- The channel after a successful move of `n` bytes: the FIFO, IN_PRODUCE, the boundaries, and the linger timer,
which stops when the FIFO is empty (R111, R113). -/
def Inbound.moved (n : Nat) (c : Inbound) : Inbound :=
  { c with
    fifo := c.fifo.drop n
    produce := advance (ringSize c.size) c.produce n
    boundaries := reachBoundaries (ringSize c.size) c.produce n c.boundaries
    linger := if c.fifo.drop n = [] then .stopped else c.linger }

/-- A FLUSHING channel whose FIFO is empty becomes OFF (R106). -/
def Inbound.flushed (c : Inbound) : Inbound := if c.state = .flushing ∧ c.fifo = [] then c.turnOff else c

/-- The words of the beats of a transfer that ended with LACK (R113). -/
def wordsWritten (first : Word) (n : Nat) : List Word :=
  (List.range n).map (fun i => first + BitVec.ofNat 32 (4 * i))

/-- A successful move (R113). -/
def State.moveDone (n : Nat) (words : List Word) (s : State) : State :=
  let s1 := ((s.setInb (s.inb.moved n)).strikeWords words).retryStream
  s1.setInb s1.inb.flushed

/-- A failed move: nothing of it is applied, the completed beats' lines are struck, the channel is HALTED (R113). -/
def State.moveFailed (k : FaultKind) (words : List Word) (addr : Word) (s : State) : State :=
  ((((s.setInb { s.inb with state := .halted }).strikeWords words).endHeldStream).fault
    { kind := k, origin := .streamIn, direction := .write, entry := none, hostAddr := none, localAddr := some addr,
      seq := none, dropped := none, inFlight := none })

/-! ### Channel commands (R106, R108) -/

/-- IN_STOP of a RUNNING channel: a held write ends, and the channel is FLUSHING, or OFF with an empty FIFO
(R106, R110). During a datapath reset, where only STREAM_ENABLE stops it, the host stays held. -/
def State.stopRunningIn (s : State) : State :=
  let s1 := unlessResetting State.endHeldStream s
  if s1.inb.fifo = [] then s1.setInb s1.inb.turnOff else s1.setInb { s1.inb with state := .flushing }

/-- IN_STOP of a HALTED channel: OFF, FIFO discarded, PENDING_DATA records removed (R106). -/
def State.stopHaltedIn (s : State) : State :=
  s.setInb { s.inb.turnOff with fifo := [], linger := .stopped, boundaries := s.inb.boundaries.filter (·.visible) }

/-- An IN_STOP where it is taken; a channel that would answer BAD_STATE is not changed (R106, R108). -/
def State.stopIn (s : State) : State :=
  match s.inb.state with
  | .running => s.stopRunningIn
  | .halted => s.stopHaltedIn
  | .flushing => s
  | .off => s

/-- IN_START's answer (R106). -/
def State.inStartResult (s : State) : Result :=
  match s.inb.state with
  | .off => if !s.streamEnabled then .notEnabled else if !ringValid s.inb.base s.inb.size then .badRing else .ok
  | _ => .badState

/-! ### Messages (R114, R115) -/

/-- END's answer, tested in order (R114). -/
def State.endResult (s : State) : Result :=
  if !s.serving then .notReady
  else if s.inb.state ≠ .running then .notRunning
  else if s.inb.msgLen = 0 then .empty
  else if Config.listDepth ≤ s.inb.boundaries.length then .full
  else .ok

/-- The boundary record END appends (R114). -/
def Inbound.boundary (c : Inbound) : Boundary :=
  { endPos := advance (ringSize c.size) c.produce c.fifo.length, length := c.msgLen, damaged := c.damaged,
    visible := c.fifo.isEmpty }

/-- The channel after an accepted END (R114). -/
def Inbound.ended (c : Inbound) : Inbound :=
  { c with boundaries := c.boundaries ++ [c.boundary], msgLen := 0, damaged := false }

/-- IN_POP's answer (R115). -/
def State.inPopResult (s : State) : Result :=
  match s.inb.boundaries with
  | [] => .empty
  | b :: _ => if b.visible then .ok else .notYet

/-! ### Index writes (R105, R179) -/

/-- Whether a written word's bits 31:17 are 0 (R179). -/
def indexField (data : Word) : Bool := decide (data.toNat < 2 ^ 17)

/-- The check of an IN_CONSUME write (R105). -/
def Inbound.consumeOk (c : Inbound) (v : Nat) : Bool :=
  decide (v < 2 * ringSize c.size) && decide (ringDist (ringSize c.size) c.consume v ≤ c.occupancy)

/-- Set INDEX_REFUSED (R105). -/
def State.flagIndexRefused (s : State) : State := { s with stream := { s.stream with indexRefused := true } }

end Sys2Proof.Machine
end

