-- ==== Sys2Proof/Machine/Outbound.lean ====
section
/-! DEFINITION. The outbound stream channel: fetches, Stream Data reads, marks and channel commands (R103 to R105,
R107, R108, R116 to R121). -/

namespace Sys2Proof.Machine

/-- Store the outbound channel. -/
def State.setOutb (c : Outbound) (s : State) : State := { s with outb := c }

/-- Whether a transfer of a client is in flight (R111, R117). -/
def State.inFlight (s : State) (c : Client) : Bool :=
  match s.master.transfer with
  | some x => decide (x.client = c)
  | none => false

/-- Make a fetch in flight void (R118). -/
def State.voidFetch (s : State) : State :=
  if s.inFlight .outbound then s.setOutb { s.outb with fetchVoid := true } else s

/-! ### Reads (R119, R120) -/

/-- Take the head bytes of the FIFO: OUT_CONSUME advances with them (R119). -/
def Outbound.taken (n : Nat) (c : Outbound) : Outbound :=
  { c with fifo := c.fifo.drop n, consume := advance (ringSize c.size) c.consume n }

/-- The answer of a read that takes `n` bytes (R119). -/
def Outbound.readReply (c : Outbound) (st : Strobes) (n : Nat) : HostReply := .read (streamHalf st (c.fifo.take n))

/-- A served Stream Data read: filler with EMPTY_READ when no byte is available, bytes when the FIFO holds them,
and the host held otherwise (R119, R120). -/
def State.serveRead (st : Strobes) (s : State) : State :=
  let t := streamTake st s.outb.available
  if t = 0 then ({ s with stream := { s.stream with emptyRead := true } }).reply fillerReply
  else if t ≤ s.outb.fifo.length then (s.setOutb (s.outb.taken t)).reply (s.outb.readReply st t)
  else (s.setOutb { s.outb with held := some st }).holdHost .outbound

/-- Judge a held read anew: answered when the FIFO holds the bytes it takes (R120). -/
def State.judgeRead (s : State) : State :=
  match s.outb.held with
  | some st =>
    let t := streamTake st s.outb.available
    if 0 < t ∧ t ≤ s.outb.fifo.length then
      (s.setOutb { s.outb.taken t with held := none }).releaseHost (s.outb.readReply st t)
    else s
  | none => s

/-- End a held read because the channel leaves RUNNING: filler, REFUSED, released (R120). -/
def State.endHeldRead (s : State) : State :=
  match s.outb.held with
  | some _ => ((s.setOutb { s.outb with held := none }).flagRefused).releaseHost fillerReply
  | none => s

/-! ### Fetches (R117, R118) -/

/-- The channel's own conditions for a fetch to be due (R117). -/
def Outbound.fetchReady (c : Outbound) : Bool :=
  decide (c.state = .running) && decide (1 ≤ c.fetchable) &&
  decide (min Config.runBytes c.fetchable ≤ c.room)

/-- The local address of a fetch's start (R117). -/
def Outbound.fetchAddr (c : Outbound) : Word := ringAddr c.base (ringSize c.size) c.fetch

/-- The length of a fetch (R117). -/
def Outbound.fetchLen (c : Outbound) : Nat :=
  min Config.runBytes (min c.room (min c.fetchable
    (min (ringSize c.size - c.fetch % ringSize c.size) (Config.runBytes - skipOf c.fetchAddr))))

/-- The channel after an applied fetch (R118). -/
def Outbound.fetched (bytes : List Byte) (n : Nat) (c : Outbound) : Outbound :=
  { c with fifo := c.fifo ++ bytes, fetch := advance (ringSize c.size) c.fetch n }

/-- A successful fetch: applied and the held read judged, or discarded when void (R118, R120). -/
def State.fetchDone (n : Nat) (bytes : List Byte) (s : State) : State :=
  if s.outb.fetchVoid then s else (s.setOutb (s.outb.fetched bytes n)).judgeRead

/-- A failed fetch: a fault record, and unless void the channel HALTED and a held read ended (R118). -/
def State.fetchFailed (k : FaultKind) (addr : Word) (s : State) : State :=
  (if s.outb.fetchVoid then s else (s.setOutb { s.outb with state := .halted }).endHeldRead).fault
    { kind := k, origin := .streamOut, direction := .read, entry := none, hostAddr := none, localAddr := some addr,
      seq := none, dropped := none, inFlight := none }

/-! ### Channel commands (R107, R108) -/

/-- An OUT_STOP of a RUNNING or HALTED channel: OFF, FIFO discarded, OUT_FETCH back to OUT_CONSUME, a fetch in
flight void, a held read ended (R107, R118, R120). During a datapath reset, where only STREAM_ENABLE stops it, the host
stays held (R124, R172; log entry 21). -/
def State.stopRunningOut (s : State) : State :=
  unlessResetting State.endHeldRead
    (s.setOutb { s.outb with state := .off, fifo := [], fetch := s.outb.consume }).voidFetch

/-- An OUT_STOP where it is taken; a channel that would answer BAD_STATE is not changed (R107, R108). -/
def State.stopOut (s : State) : State :=
  match s.outb.state with
  | .running => s.stopRunningOut
  | .halted => s.stopRunningOut
  | .off => s

/-- OUT_START's answer (R107). -/
def State.outStartResult (s : State) : Result :=
  match s.outb.state with
  | .off => if !s.streamEnabled then .notEnabled else if !ringValid s.outb.base s.outb.size then .badRing else .ok
  | _ => .badState

/-! ### Marks (R116, R121) -/

/-- The reference of a new mark: the newest mark, or OUT_CONSUME (R116). -/
def Outbound.reference (c : Outbound) : Nat := (c.marks.getLast?).getD c.consume

/-- OUT_MARK's answer (R116). -/
def Outbound.markResult (c : Outbound) (p : Nat) : Result :=
  let size := ringSize c.size
  if Config.listDepth ≤ c.marks.length then .full
  else if 2 * size ≤ p ∨ ringDist size c.reference p = 0 ∨ ringDist size c.consume p < ringDist size c.consume c.reference ∨
      ringDist size c.consume c.produce < ringDist size c.consume p then .badMark
  else .ok

/-- The channel after a mark accepted on an empty list: the FIFO cut back to it, and OUT_FETCH set to it if it lay
after it (R116). -/
def Outbound.cutBack (p : Nat) (c : Outbound) : Outbound :=
  let size := ringSize c.size
  { c with
    fifo := c.fifo.take (ringDist size c.consume p)
    fetch := if ringDist size c.consume p < ringDist size c.consume c.fetch then p else c.fetch }

/-- Whether the run of a fetch in flight reaches past a position (R116). -/
def State.fetchReaches (s : State) (p : Nat) : Bool :=
  match s.master.transfer with
  | some x =>
    decide (x.client = .outbound) &&
    decide (ringDist (ringSize s.outb.size) s.outb.consume p <
            ringDist (ringSize s.outb.size) s.outb.consume s.outb.fetch + x.runLen)
  | none => false

/-- An accepted OUT_MARK (R116): appended; on an empty list the fetched bytes are cut back to it and a fetch that
reaches past it is void. A held read is judged anew (R120). -/
def State.takeMark (p : Nat) (s : State) : State :=
  let s1 :=
    if s.outb.marks = [] then
      let s0 := if s.fetchReaches p then s.voidFetch else s
      s0.setOutb (s0.outb.cutBack p)
    else s
  (s1.setOutb { s1.outb with marks := s1.outb.marks ++ [p] }).judgeRead

/-- NEXT's effect on the channel: the head mark is removed and the rest of its message skipped (R121). -/
def State.skipMessage (s : State) : State :=
  match s.outb.marks with
  | m :: rest =>
    let s1 := s.setOutb { s.outb with marks := rest }
    if s.outb.consume = m then s1
    else (s1.setOutb { s1.outb with fifo := [], fetch := m, consume := m }).voidFetch
  | [] => s

/-- The check of an OUT_PRODUCE write (R105). -/
def Outbound.produceOk (c : Outbound) (v : Nat) : Bool :=
  let size := ringSize c.size
  decide (v < 2 * size) && decide (ringDist size c.consume c.produce ≤ ringDist size c.consume v) &&
  decide (ringDist size c.consume v ≤ size)

end Sys2Proof.Machine
end

