-- ==== Sys2Proof/Machine/Resets.lean ====
section
/-! DEFINITION. What the three resets do to each block (R24, R43, R62, R81 to R83, R101, R102, R124, R125, R142,
R143, R158, R159, R170 to R174). -/

namespace Sys2Proof.Machine

/-! ### Block by block -/

/-- The master gives the bus back: LBREQ is deasserted and the release mark set (R71, R72). -/
def State.release (s : State) : State :=
  { s with master := { s.master with own := .released, releaseMark := some s.now } }

/-- A bus that is owned or requested is released (R81). -/
def State.releaseIfAsked (s : State) : State := if s.master.own = .released then s else s.release

/-- The entries after every reset: all EMPTY with host-editable 0 (R24). -/
def Table.clearEntries (t : Table) : Table := { t with entries := Vector.replicate 8 Entry.clear }

/-- The inbound channel after a datapath reset: the ring settings are kept (R124, R125). -/
def Inbound.clear (c : Inbound) : Inbound :=
  { Inbound.reset with base := c.base, size := c.size, drop := c.drop, hold := c.hold }

/-- The outbound channel after a datapath reset: the ring settings are kept (R124, R125). -/
def Outbound.clear (c : Outbound) : Outbound :=
  { Outbound.reset with base := c.base, size := c.size, hold := c.hold }

/-- The four flags cleared; thresholds and results kept (R124, R125). -/
def StreamRegs.clearFlags (r : StreamRegs) : StreamRegs :=
  { r with refused := false, dropped := false, emptyRead := false, indexRefused := false }

/-- The lines after every reset; FRESHNESS and the result kept (R62). -/
def LineSet.clearLines (l : LineSet) : LineSet := { l with line0 := .invalid, line1 := .invalid }

/-- The arbiter's state after every reset (R81, R82). -/
def Master.clearArbiter (m : Master) : Master := { m with run := 0, lastStream := .outbound }

/-- The answer a held host gets from a datapath reset: filler for a read, completion for a write (R42, R61, R124,
R173). -/
def State.resetReply (s : State) : HostReply :=
  if s.slot.record.isSome || s.outb.held.isSome then fillerReply
  else if s.hostHeld then .written
  else s.hostReply

/-! ### The datapath reset carried out (R173) -/

/-- Every datapath block clears its state, held hosts are released without a fault record, the status becomes IDLE
and DATAPATH_DONE is latched (R173). -/
def State.carryOut (s : State) : State :=
  let s1 := s.releaseIfAsked
  ({ s1 with
     table := s.table.clearEntries
     pwq := Pwq.reset
     slot := ReadSlot.reset
     lineset := s.lineset.clearLines
     master := s1.master.clearArbiter
     stall := none
     faults := { s.faults with queue := [], lost := 0 }
     inb := s.inb.clear
     outb := s.outb.clear
     stream := s.stream.clearFlags
     power := { s.power with resetBusy := false }
     hostReply := s.resetReply }).latchDatapathDone

/-! ### The module reset (R171) -/

/-- The master in a module reset (R82): a transfer in flight is marked discarded and becomes the last of its
ownership; a hold or a request ends at once. -/
def State.resetMaster (s : State) : State :=
  let cleared (m : Master) : Master :=
    { m.clearArbiter with ackLimit := Config.resetAckLimit, grantPatience := 0, yieldHonor := true }
  match s.master.transfer with
  | some x =>
    { s with master := { cleared s.master with transfer := some { x with discard := true }, own := .yielding .yielded } }
  | none => let s1 := s.releaseIfAsked; { s1 with master := cleared s1.master }

/-- The module reset begun by a host write that changes S0 from 0 to 1 (R171): each block clears its state as its
chapter states; what belongs to the host is kept. -/
def State.moduleResetBegin (s : State) : State :=
  let s1 := s.resetMaster
  ({ s1 with
     table := { s.table.clearEntries with localStage := Staging.clear, localView := 0, localResult := .ok }
     pwq := Pwq.reset
     slot := ReadSlot.reset
     lineset := LineSet.reset
     stall := none
     faults := { FaultUnit.reset with hostResult := s.faults.hostResult }
     inb := Inbound.reset
     outb := Outbound.reset
     stream := { s.stream.clearFlags with localResult := .ok }
     settings := { Settings.reset with
                     moduleReset := true, eventEnable := s.settings.eventEnable,
                     stallLimit := s.settings.stallLimit }
     events := { Events.reset with host := s.events.host, noteResult := s.events.noteResult }
     power := Power.reset }).latchPower

/-! ### The power-on reset (R170) -/

/-- PON asserted: every piece of state takes its power-on value. The levels of the other input lines, the count of
ticks and the waiting commands are the outside's, not the bridge's (log entries 2, 4 and 5). -/
def State.powerOn (s : State) : State :=
  { State.reset with
    pins := { s.pins with pon := true }
    now := s.now
    pending := s.pending }

end Sys2Proof.Machine
end

