-- ==== Sys2Proof/Machine/Bus.lean ====
section
/-! DEFINITION. The Local Bus Master: eligibility, the arbiter, the issue of transfers, requests and grants, the
end of a transfer and the settling of the bus (R63 to R78). -/

namespace Sys2Proof.Machine

/-! ### Eligibility (R77) -/

/-- Whether a client is eligible; none is while a datapath reset is in progress (R77, R81). -/
def State.eligible (s : State) (c : Client) : Bool :=
  !s.power.resetBusy &&
  match c with
  | .readSlot => s.slot.record.any (fun r => decide (r.phase = .busWait))
  | .pwq => s.pwq.records.head?.any (fun r => !r.inFlight)
  | .inbound => s.inb.moveReady && !s.inFlight .inbound
  | .outbound =>
    s.outb.fetchReady && (decide (s.power.state = .active) || decide (s.power.state = .quiescing)) &&
    !s.inFlight .outbound

/-- Whether a stream client is eligible. -/
def State.streamEligible (s : State) : Bool := s.eligible .inbound || s.eligible .outbound

/-- Whether any client is eligible. -/
def State.anyEligible (s : State) : Bool := s.eligible .readSlot || s.eligible .pwq || s.streamEligible

/-! ### The arbiter (R78) -/

/-- The stream client that wins: the one other than the last served when both are eligible (R78, step 4). -/
def State.streamWinner (s : State) : Client :=
  if s.eligible .inbound && s.eligible .outbound then
    match s.master.lastStream with
    | .inbound => .outbound
    | .outbound => .inbound
  else if s.eligible .inbound then .inbound
  else .outbound

/-- The arbiter's choice, none when no client is eligible (R78). -/
def State.choose (s : State) : Option Client :=
  if Config.runLimit ≤ s.master.run ∧ s.streamEligible = true then some s.streamWinner
  else if s.eligible .readSlot then some .readSlot
  else if s.eligible .pwq then some .pwq
  else if s.streamEligible then some s.streamWinner
  else none

/-- The arbiter's bookkeeping after a choice: the aperture run count and the last stream served (R78). -/
def State.account (c : Client) (s : State) : State :=
  match c with
  | .readSlot => { s with master := { s.master with run := if s.streamEligible then s.master.run + 1 else 0 } }
  | .pwq => { s with master := { s.master with run := if s.streamEligible then s.master.run + 1 else 0 } }
  | .inbound => { s with master := { s.master with run := 0, lastStream := .inbound } }
  | .outbound => { s with master := { s.master with run := 0, lastStream := .outbound } }

/-! ### Issue (R35, R48, R64, R66, R112, R117) -/

/-- A beat read on all four lanes. -/
def fullBeat : Beat := { lbe := 0xF#4, ld := 0 }

/-- Put a transfer in flight; its first beat is presented with the ACK_LIMIT in force (R63, R66). -/
def State.startTransfer (x : Transfer) (s : State) : State := { s with master := { s.master with transfer := some x } }

/-- The timer of a beat presented now (R66). -/
def State.beatTimer (s : State) : Timer := { start := s.now, limit := s.master.ackLimit.toNat }

/-- Issue the Read Slot's record (R48). -/
def State.issueRead (s : State) : State :=
  match s.slot.record with
  | some r =>
    match r.kind with
    | .single =>
      (s.setRead (some { r with phase := .inFlight })).startTransfer
        { client := .readSlot, kind := .singleRead, entry := some r.entry, first := r.word,
          beats := [{ lbe := r.lanes.mask, ld := 0 }], beatsDone := 0, readData := [], discard := false,
          beatTimer := s.beatTimer, runLen := 0, runSkip := 0 }
    | .line =>
      let i := s.lineset.choose
      ((s.setRead (some { r with phase := .inFlight, line := some i })).setLine i
        (.filling false r.entry (lineAddr r.word))).startTransfer
        { client := .readSlot, kind := .lineFill, entry := some r.entry, first := lineAddr r.word,
          beats := List.replicate 8 fullBeat, beatsDone := 0, readData := [], discard := false,
          beatTimer := s.beatTimer, runLen := 0, runSkip := 0 }
  | none => s

/-- Issue the PWQ's head (R35). -/
def State.issueWrite (s : State) : State :=
  match s.pwq.records with
  | r :: rest =>
    ({ s with pwq := { s.pwq with records := { r with inFlight := true } :: rest } }).startTransfer
      { client := .pwq, kind := .singleWrite, entry := some r.entry, first := r.word,
        beats := [{ lbe := r.mask, ld := r.data }], beatsDone := 0, readData := [], discard := false,
        beatTimer := s.beatTimer, runLen := 0, runSkip := 0 }
  | [] => s

/-- Form and issue an inbound move (R112). -/
def State.issueMove (s : State) : State :=
  let n := s.inb.moveLen
  let skip := skipOf s.inb.moveAddr
  s.startTransfer
    { client := .inbound, kind := .streamMove, entry := none, first := wordOf s.inb.moveAddr,
      beats := runBeats skip (s.inb.fifo.take n), beatsDone := 0, readData := [], discard := false,
      beatTimer := s.beatTimer, runLen := n, runSkip := skip }

/-- Form and issue an outbound fetch, which is not void (R117, R118). -/
def State.issueFetch (s : State) : State :=
  let n := s.outb.fetchLen
  let skip := skipOf s.outb.fetchAddr
  (s.setOutb { s.outb with fetchVoid := false }).startTransfer
    { client := .outbound, kind := .streamFetch, entry := none, first := wordOf s.outb.fetchAddr,
      beats := runBeats skip (List.replicate n 0#8), beatsDone := 0, readData := [], discard := false,
      beatTimer := s.beatTimer, runLen := n, runSkip := skip }

/-- Issue the chosen client's transfer, with the arbiter's bookkeeping (R78). -/
def State.issue (c : Client) (s : State) : State :=
  let s1 := s.account c
  match c with
  | .readSlot => s1.issueRead
  | .pwq => s1.issueWrite
  | .inbound => s1.issueMove
  | .outbound => s1.issueFetch

/-! ### Requests, grants and holds (R69 to R76) -/

/-- Store the ownership state. -/
def State.setOwn (o : Ownership) (s : State) : State := { s with master := { s.master with own := o } }

/-- Whether LYLD asks for the bus and is honoured (R73). -/
def State.yieldAsked (s : State) : Bool := s.pins.lyld && s.master.yieldHonor

/-- Whether a tick has passed since the release mark (R69, R83). -/
def State.markPassed (s : State) : Bool :=
  match s.master.releaseMark with
  | some m => decide (m < s.now)
  | none => true

/-- Enter REQUESTING: the grant patience timer starts when GRANT_PATIENCE is not 0 (R69, R75, R76). -/
def State.enterRequesting (s : State) : State :=
  s.setOwn (.requesting s.now (if s.master.grantPatience = 0#8 then .stopped else .running))

/-- Take ownership: the arbiter chooses and its transfer is issued; with LYLD honoured this transfer is the only one
(R70). With no client eligible the request ends (R69). -/
def State.takeGrant (s : State) : State :=
  match s.choose with
  | some c => (s.setOwn (if s.yieldAsked then .yielding .yielded else .transferring)).issue c
  | none => s.release

/-- The tests made at the end of every event that can change them: a request begins, stands, or ends without a
grant; a client that became eligible ends a hold (R69, R70, R72). -/
def State.poll (s : State) : State :=
  match s.master.own with
  | .released =>
    if s.anyEligible && !s.yieldAsked && s.markPassed then
      (if s.pins.lbgnt then s.enterRequesting.takeGrant else s.enterRequesting)
    else s
  | .requesting _ _ => if s.anyEligible then (if s.pins.lbgnt then s.takeGrant else s) else s.release
  | .holding _ =>
    match s.choose with
    | some c => (s.setOwn .transferring).issue c
    | none => s
  | .transferring => s
  | .yielding _ => s

/-- The settling of the bus after a transfer that ended while OWNED_TRANSFERRING (R71). -/
def State.settleOwned (hold : Nat) (s : State) : State :=
  if s.yieldAsked then s.release
  else
    match s.choose with
    | some c => s.issue c
    | none => if 0 < hold then s.setOwn (.holding { start := s.now, limit := hold }) else s.release

/-- The settling of the bus after a transfer, by the ownership state (R71, R75). -/
def State.settle (hold : Nat) (s : State) : State :=
  match s.master.own with
  | .transferring => s.settleOwned hold
  | .yielding .yielded => s.release
  | .yielding .withdrawn => if s.anyEligible then s.enterRequesting else s.release
  | .released => s
  | .requesting _ _ => s
  | .holding _ => s

/-! ### The end of a transfer (R65, R67) -/

/-- The hold of a transfer, read before its result is handed on (R67). -/
def State.transferHold (s : State) (x : Transfer) : Nat :=
  match x.kind with
  | .streamMove => s.inb.hold.toNat
  | .streamFetch => s.outb.hold.toNat
  | _ => x.entry.elim 0 s.entryHold

/-- The word address of the beat presented, the failing beat when it fails (R67). -/
def Transfer.beatAddr (x : Transfer) : Word := x.first + BitVec.ofNat 32 (4 * x.beatsDone)

/-- Hand the result OK to the Read Slot: to its record in flight, or to the orphan (R67). -/
def State.slotDone (x : Transfer) (s : State) : State :=
  match s.slot.record with
  | some r =>
    if r.phase = .inFlight then s.readDone r x.readData
    else s.slot.orphan.elim s (fun o => s.orphanDone o x.readData)
  | none => s.slot.orphan.elim s (fun o => s.orphanDone o x.readData)

/-- Hand a failure to the Read Slot (R67). -/
def State.slotFailed (x : Transfer) (k : FaultKind) (s : State) : State :=
  match s.slot.record with
  | some r =>
    if r.phase = .inFlight then s.readFailed r k
    else s.slot.orphan.elim s (fun o => s.orphanFailed o k x.first)
  | none => s.slot.orphan.elim s (fun o => s.orphanFailed o k x.first)

/-- Hand the result OK to the client (R67). -/
def State.deliverOk (x : Transfer) (s : State) : State :=
  match x.client with
  | .readSlot => s.slotDone x
  | .pwq => s.completeHead
  | .inbound => s.moveDone x.runLen (wordsWritten x.first x.beatsDone)
  | .outbound => s.fetchDone x.runLen (runOf x.runSkip x.runLen x.readData)

/-- Hand a failure to the client (R67). -/
def State.deliverFailure (x : Transfer) (k : FaultKind) (s : State) : State :=
  match x.client with
  | .readSlot => s.slotFailed x k
  | .pwq => s.failHead k
  | .inbound => s.moveFailed k (wordsWritten x.first x.beatsDone) x.beatAddr
  | .outbound => s.fetchFailed k x.beatAddr

/-- The end of a transfer: the hold is read, the result handed to the client unless discarded, and the bus settled,
or a datapath reset in progress carried out (R67, R81, R172). -/
def State.endTransfer (x : Transfer) (deliver : State → State) (s : State) : State :=
  let hold := s.transferHold x
  let s1 := { s with master := { s.master with transfer := none } }
  let s2 := if x.discard then s1 else deliver s1
  if s.power.resetBusy then s2.carryOut else s2.settle hold

/-- The transfer after a beat that ended with LACK (R65): a read beat takes the word on LD; the next beat is timed
with the ACK_LIMIT in force now (R66). -/
def Transfer.acked (x : Transfer) (ld : Word) (t : Timer) : Transfer :=
  { x with
    beatsDone := x.beatsDone + 1
    readData := if x.kind = .singleWrite ∨ x.kind = .streamMove then x.readData else x.readData ++ [ld]
    beatTimer := t }

/-- LACK for the beat presented; ignored when none is (R65). A LACK that follows an expiry whose end issued the next
transfer finds that transfer's first beat presented and is taken for it (R66; DESIGN CHOICE, log entry 20). -/
def State.takeLack (ld : Word) (s : State) : State :=
  match s.master.transfer with
  | some x =>
    let y := x.acked ld s.beatTimer
    if y.beatsDone < y.beats.length then s.startTransfer y
    else s.endTransfer y (State.deliverOk y)
  | none => s

/-- The beat presented fails: the transfer ends with its remaining beats not presented (R65, R66). An LERR is taken for
the beat presented as a LACK is (DESIGN CHOICE, log entry 20). -/
def State.failBeat (k : FaultKind) (s : State) : State :=
  match s.master.transfer with
  | some x => s.endTransfer x (State.deliverFailure x k)
  | none => s

/-! ### Lines of the local bus (R70, R73, R74) -/

/-- An assertion of LYLD, by the ownership state, where it is honoured (R73). -/
def State.yieldBus (s : State) : State :=
  if s.yieldAsked then
    match s.master.own with
    | .transferring => s.setOwn (.yielding .yielded)
    | .holding _ => s.release
    | .yielding .withdrawn => s.setOwn (.yielding .yielded)
    | .yielding .yielded => s
    | .released => s
    | .requesting _ _ => s
  else s

/-- A withdrawal of LBGNT, by the ownership state (R74). -/
def State.loseGrant (s : State) : State :=
  match s.master.own with
  | .transferring => s.setOwn (.yielding .withdrawn)
  | .holding _ => s.release
  | .yielding _ => s
  | .released => s
  | .requesting _ _ => s

/-- LBGNT asserted again while YIELDING with reason WITHDRAWN (R74). -/
def State.regainGrant (s : State) : State :=
  match s.master.own with
  | .yielding .withdrawn => s.setOwn .transferring
  | .yielding .yielded => s
  | .transferring => s
  | .holding _ => s
  | .released => s
  | .requesting _ _ => s

/-- YIELD_HONOR written 0 while YIELDING with reason YIELD (R73). A transfer that a module reset discarded is no
exception, although R82 has the bus released at its end: DESIGN CHOICE, log entry 23. -/
def State.unyield (s : State) : State :=
  match s.master.own with
  | .yielding .yielded => s.setOwn (if s.pins.lbgnt then .transferring else .yielding .withdrawn)
  | .yielding .withdrawn => s
  | .transferring => s
  | .holding _ => s
  | .released => s
  | .requesting _ _ => s

end Sys2Proof.Machine
end

