-- ==== Sys2Proof/Machine/BusEvents.lean ====
section
/-! DEFINITION. The lines of the local bus, the local settings of the Local Bus Master and the Line Set, and
REQUEST_BEGIN (R54, R56, R65, R69, R70, R73, R74, R76). -/

namespace Sys2Proof.Machine

/-! ### LBGNT and LYLD. While PON is asserted a change is not taken; the level is the line's own (log entry 5) -/

/-- The level of LBGNT. -/
def State.grantLevel (v : Bool) (s : State) : State := { s with pins := { s.pins with lbgnt := v } }

/-- The level of LYLD. -/
def State.yieldLevel (v : Bool) (s : State) : State := { s with pins := { s.pins with lyld := v } }

/-- LBGNT asserted: a REQUESTING master takes ownership, one YIELDING with reason WITHDRAWN gets its grant back (R70,
R74). -/
def State.takeGrantLine (s : State) : State := ((s.grantLevel true).regainGrant).poll

/-- LBGNT withdrawn (R74). -/
def State.takeWithdrawal (s : State) : State := (s.grantLevel false).loseGrant

/-- LYLD asserted (R73). -/
def State.takeYield (s : State) : State := (s.yieldLevel true).yieldBus

/-- LYLD deasserted, which permits a new request (R69, R73). -/
def State.takeUnyield (s : State) : State := (s.yieldLevel false).poll

/-! ### Local settings -/

/-- A local write of YIELD_HONOR (R73): 1 with LYLD asserted is an assertion of LYLD, 0 gives back a yield. -/
def State.writeYieldHonor (v : Bool) (s : State) : State :=
  let s1 := { s with master := { s.master with yieldHonor := v } }
  if v then s1.yieldBus else (s1.unyield).poll

/-- The patience timer expires: GRANT_SLOW is latched and LURG asserted (R76). -/
def State.expirePatience (since : Nat) (s : State) : State := (s.setOwn (.requesting since .expired)).latchGrantSlow

/-- A local write of GRANT_PATIENCE (R76): 0 stops the timer; another value applies to a running timer or starts
one, counted from the entry into REQUESTING, unless it has expired in this request. -/
def State.writeGrantPatience (v : BitVec 8) (s : State) : State :=
  let s1 := { s with master := { s.master with grantPatience := v } }
  match s.master.own with
  | .requesting since .expired => s1.setOwn (.requesting since .expired)
  | .requesting since _ =>
    if v = 0#8 then s1.setOwn (.requesting since .stopped)
    else if v.toNat ≤ s.now - since then s1.expirePatience since
    else s1.setOwn (.requesting since .running)
  | _ => s1

/-- Whether a line is VALID and at or past an age (R56). -/
def Line.aged (limit : BitVec 8) (now : Nat) : Line → Bool
  | .valid _ _ _ t => decide (limit ≠ 0#8) && decide (limit.toNat ≤ now - t)
  | .filling _ _ _ => false
  | .invalid => false

/-- A local write of FRESHNESS: VALID lines already at or past the new value become INVALID (R56). -/
def State.writeFreshness (v : BitVec 8) (s : State) : State :=
  { s with lineset := { s.lineset.strikeIf (fun l => l.aged v s.now) with freshness := v } }

/-- INVALIDATE_LINES (R54). -/
def State.takeInvalidate (s : State) : State := (s.strikeAll).lineResult .ok

/-! ### A request that waited for its tick -/

/-- REQUEST_BEGIN: a tick has passed since the release mark, so a request that waited for it begins (R69; log entry
2). -/
def State.beginRequest (s : State) : State :=
  if s.master.own = .released ∧ s.anyEligible = true ∧ s.yieldAsked = false then
    match s.master.releaseMark with
    | some m => ({ s with now := max s.now (m + 1) }).poll
    | none => s.poll
  else s

/-! ### Meanings -/

/-- LBGNT_ASSERTED (R70). -/
def execLbgntAsserted (s : State) : Host.Outcome State Fault Refusal :=
  .next (if s.pins.pon then s.grantLevel true else s.takeGrantLine)

/-- LBGNT_WITHDRAWAL (R74). -/
def execLbgntWithdrawal (s : State) : Host.Outcome State Fault Refusal :=
  .next (if s.pins.pon then s.grantLevel false else s.takeWithdrawal)

/-- LYLD_ASSERTED (R73). -/
def execLyldAsserted (s : State) : Host.Outcome State Fault Refusal :=
  .next (if s.pins.pon then s.yieldLevel true else s.takeYield)

/-- LYLD_DEASSERTED (R69). -/
def execLyldDeasserted (s : State) : Host.Outcome State Fault Refusal :=
  .next (if s.pins.pon then s.yieldLevel false else s.takeUnyield)

/-- LACK (R65). -/
def execLack (ld : Word) (s : State) : Host.Outcome State Fault Refusal :=
  .next (unlessPon (State.takeLack ld) s)

/-- LERR (R65). It stands for LACK and LERR together for one beat too, which R65 takes as LERR: no command carries
both (DESIGN CHOICE, log entry 22). -/
def execLerr (s : State) : Host.Outcome State Fault Refusal :=
  .next (unlessPon (State.failBeat .localError) s)

/-- YIELD_HONOR (R73). -/
def execYieldHonor (v : Bool) (s : State) : Host.Outcome State Fault Refusal :=
  .next (localWrite (State.writeYieldHonor v) s)

/-- GRANT_PATIENCE (R76). -/
def execGrantPatience (v : BitVec 8) (s : State) : Host.Outcome State Fault Refusal :=
  .next (localWrite (State.writeGrantPatience v) s)

/-- FRESHNESS (R56). -/
def execFreshness (v : BitVec 8) (s : State) : Host.Outcome State Fault Refusal :=
  .next (localWrite (State.writeFreshness v) s)

/-- INVALIDATE_LINES (R54). -/
def execInvalidateLines (s : State) : Host.Outcome State Fault Refusal := .next (localWrite State.takeInvalidate s)

/-- REQUEST_BEGIN (R69). -/
def execRequestBegin (s : State) : Host.Outcome State Fault Refusal := .next (unlessPon State.beginRequest s)

end Sys2Proof.Machine
end

