-- ==== Sys2Proof/Machine/EventCommands.lean ====
section
/-! DEFINITION. The Event Unit, the Note List, the Fault Queue's commands and the attention line (R93, R94, R144 to
R157). -/

namespace Sys2Proof.Machine

/-! ### Event registers (R147, R150, R151) -/

/-- A write of the host event register clears the latched events written with one (R147). -/
def State.clearHostEvents (d : Half) (s : State) : State :=
  let h := s.events.host
  { s with events := { s.events with host :=
      { answer := h.answer && !d.getLsbD 0, attention := h.attention && !d.getLsbD 1,
        power := h.power && !d.getLsbD 2 } } }

/-- A write of the local event register clears the latched events written with one (R150). -/
def State.clearLocalEvents (d : Word) (s : State) : State :=
  let l := s.events.loc
  { s with events := { s.events with loc :=
      { attention := l.attention && !d.getLsbD 0, quiesce := l.quiesce && !d.getLsbD 1,
        cancel := l.cancel && !d.getLsbD 2, wake := l.wake && !d.getLsbD 3,
        grantSlow := l.grantSlow && !d.getLsbD 4, table := l.table && !d.getLsbD 5,
        markTaken := l.markTaken && !d.getLsbD 6, datapathDone := l.datapathDone && !d.getLsbD 7 } } }

/-- A write of the local mask (R151). -/
def State.writeMask (m : BitVec 12) (s : State) : State := { s with events := { s.events with mask := m } }

/-! ### Notes (R153, R154) -/

/-- A post: appended, or refused with NOTE_FULL set when the list holds 4 (R153). -/
def State.postNote (c : BitVec 16) (s : State) : State :=
  if s.events.notes.length < Config.noteDepth then { s with events := { s.events with notes := s.events.notes ++ [c] } }
  else { s with events := { s.events with noteFull := true } }

/-- A pop of the head, or EMPTY (R154). -/
def State.popNote (s : State) : State :=
  match s.events.notes with
  | _ :: rest => ({ s with events := { s.events with notes := rest } }).noteResult .ok
  | [] => s.noteResult .empty

/-- NOTE_FULL cleared (R153). -/
def State.clearNoteFull (s : State) : State := { s with events := { s.events with noteFull := false } }

/-! ### The Fault Queue's commands (R93, R94) -/

/-- A pop of the head, or EMPTY, in the window's own result (R93). -/
def State.popFault (w : Window) (s : State) : State :=
  match s.faults.queue with
  | _ :: rest => ({ s with faults := { s.faults with queue := rest } }).popResult w .ok
  | [] => s.popResult w .empty

/-- CLEAR_LOST: the lost count becomes 0, OK in the local pop result (R94). -/
def State.clearLost (s : State) : State := ({ s with faults := { s.faults with lost := 0 } }).popResult .loc .ok

/-! ### The attention line (R156) -/

/-- A change of LATN from deasserted to asserted, routed by ATTENTION_ROUTE and offered as a wake source (R156,
R167). Asserted already, it is no change. -/
def State.raiseAttention (s : State) : State :=
  if s.pins.latn then s
  else
    let s1 := ({ s with pins := { s.pins with latn := true } }).latchAttention
    let s2 := if s.settings.s4.accepted = Config.routeForward then s1.latchHostAttention else s1
    if s.power.wakeOnAttention then s2.wakeBy .attention else s2

/-- The level of LATN becomes deasserted; ATTENTION_LEVEL follows it (R156). -/
def State.dropAttention (s : State) : State := { s with pins := { s.pins with latn := false } }

/-- A change of LATN while PON is asserted is not taken; the level is the line's own (R170; log entry 5). -/
def State.attentionLevel (v : Bool) (s : State) : State := { s with pins := { s.pins with latn := v } }

/-! ### Meanings -/

/-- HOST_EVENT (R147). -/
def execHostEvent (d : Half) (s : State) : Host.Outcome State Fault Refusal :=
  .next (hostWrite (State.clearHostEvents d) s)

/-- LOCAL_EVENT (R150). -/
def execLocalEvent (d : Word) (s : State) : Host.Outcome State Fault Refusal :=
  .next (localWrite (State.clearLocalEvents d) s)

/-- LOCAL_MASK (R151). -/
def execLocalMask (m : BitVec 12) (s : State) : Host.Outcome State Fault Refusal :=
  .next (localWrite (State.writeMask m) s)

/-- NOTE_POST (R153). -/
def execNotePost (c : BitVec 16) (s : State) : Host.Outcome State Fault Refusal :=
  .next (localWrite (State.postNote c) s)

/-- NOTE_FULL_CLEAR (R153). -/
def execNoteFullClear (s : State) : Host.Outcome State Fault Refusal := .next (localWrite State.clearNoteFull s)

/-- NOTE_POP (R154). -/
def execNotePop (s : State) : Host.Outcome State Fault Refusal := .next (hostWrite State.popNote s)

/-- A pop from a window, where that window's writes are taken (R93, R175, R176). -/
def faultAccess (w : Window) (s : State) : State :=
  match w with
  | .host => hostWrite (State.popFault .host) s
  | .loc => localWrite (State.popFault .loc) s

/-- FAULT_POP (R93). -/
def execFaultPop (w : Window) (s : State) : Host.Outcome State Fault Refusal := .next (faultAccess w s)

/-- CLEAR_LOST (R94). -/
def execClearLost (s : State) : Host.Outcome State Fault Refusal := .next (localWrite State.clearLost s)

/-- LATN_ASSERTION (R156). -/
def execLatnAssertion (s : State) : Host.Outcome State Fault Refusal :=
  .next (if s.pins.pon then s.attentionLevel true else s.raiseAttention)

/-- LATN_DEASSERTION (R156). -/
def execLatnDeassertion (s : State) : Host.Outcome State Fault Refusal :=
  .next (if s.pins.pon then s.attentionLevel false else s.dropAttention)

end Sys2Proof.Machine
end

