-- ==== Sys2Proof/Machine/HostAccess.lean ====
section
/-! DEFINITION. The host accesses: aperture reads and writes (R15 to R23) and Stream Data (R109, R119). -/

namespace Sys2Proof.Machine

/-! ### Classification (R15 to R20) -/

/-- The class of a host aperture access (R16 to R20). -/
inductive AccessClass where
  | notReady
  | unmapped
  | refused (e : EntryIdx)
  | denied (e : EntryIdx)
  | admitted (e : EntryIdx) (ap : Aperture)
  deriving DecidableEq, Repr

/-- Whether an aperture carries a direction (R19). -/
def Aperture.permits (ap : Aperture) : Direction → Bool
  | .read => ap.access.reads
  | .write => ap.access.writes

/-- Classification: the first of R16 to R20 that applies. -/
def State.classify (s : State) (a : HostAddr) (d : Direction) : AccessClass :=
  if !s.serving then .notReady
  else
    match s.covering a with
    | none => .unmapped
    | some (e, l) =>
      if l.phase ≠ .opened then .refused e
      else if l.ap.permits d then .admitted e l.ap
      else .denied e

/-- The fault record of an UNMAPPED access (R17, R90). -/
def unmappedFault (a : HostAddr) (d : Direction) : FaultRecord :=
  { kind := .unmapped, origin := .hostAccess, direction := d, entry := none, hostAddr := some a, localAddr := none,
    seq := none, dropped := none, inFlight := none }

/-- The fault record of a DENIED access (R19, R90). -/
def deniedFault (a : HostAddr) (d : Direction) (e : EntryIdx) : FaultRecord :=
  { kind := .denied, origin := .hostAccess, direction := d, entry := some e, hostAddr := some a, localAddr := none,
    seq := none, dropped := none, inFlight := none }

/-- The classified write handed to the Posted Write Queue (R20, R21). -/
def hostWriteOf (ha : BitVec 23) (st : Strobes) (hd : Half) (e : EntryIdx) (ap : Aperture) : HostWrite :=
  { entry := e, hostAddr := hostAddress ha st, word := wordOf (ap.localByte (hostAddress ha st)),
    mask := writeMask ha st ap.swapped, data := writeData ha st hd ap.swapped, strict := ap.strict,
    combine := ap.combine }

/-- The classified read handed to the Line Set: LINE through a STREAMING entry with LINE_PERMIT 1, else SINGLE
(R20, R44, R46). -/
def readOf (ha : BitVec 23) (st : Strobes) (e : EntryIdx) (ap : Aperture) (permit : Bool) : ReadRecord :=
  { hostAddr := hostAddress ha st, entry := e, word := wordOf (ap.localByte (hostAddress ha st)),
    lanes := readLanes ha st ap.swapped, kind := if ap.streaming && permit then .line else .single,
    phase := .orderWait, line := none }

/-- An access settled at once: what it does beside its answer (R16 to R19). -/
def State.settleAccess (a : HostAddr) (d : Direction) (c : AccessClass) (s : State) : State :=
  match c with
  | .notReady => s.offerAccess
  | .unmapped => s.fault (unmappedFault a d)
  | .refused e => s.countRefused e
  | .denied e => s.fault (deniedFault a d e)
  | .admitted _ _ => s

/-- A host aperture write (R15, R29). -/
def State.apertureWrite (ha : BitVec 23) (st : Strobes) (hd : Half) (s : State) : State :=
  if anyStrobe st then
    match s.classify (hostAddress ha st) .write with
    | .admitted e ap => (s.offerWrite (hostWriteOf ha st hd e ap)).poll
    | c => s.settleAccess (hostAddress ha st) .write c
  else s

/-- A host aperture read (R15, R46). -/
def State.apertureRead (ha : BitVec 23) (st : Strobes) (s : State) : State :=
  if anyStrobe st then
    match s.classify (hostAddress ha st) .read with
    | .admitted e ap => (s.offerRead (readOf ha st e ap s.linePermit)).poll
    | c => (s.reply fillerReply).settleAccess (hostAddress ha st) .read c
  else s.reply fillerReply

/-! ### Stream Data (R109, R119) -/

/-- A host write of Stream Data (R109). A write with no strobe changes nothing (R109, R175). -/
def State.streamWrite (st : Strobes) (hd : Half) (s : State) : State :=
  if anyStrobe st then
    if s.serving && decide (s.inb.state = .running) then (s.acceptBytes (streamBytes st hd)).poll
    else s.flagRefused.offerAccess
  else s

/-- A host read of Stream Data (R119). A read with no strobe changes nothing and returns filler (R119, R175). -/
def State.streamRead (st : Strobes) (s : State) : State :=
  if anyStrobe st then
    if s.serving && decide (s.outb.state = .running) then (s.serveRead st).poll
    else ((s.reply fillerReply).flagRefused).offerAccess
  else s.reply fillerReply

/-! ### Meanings -/

/-- HOST_APERTURE_READ (R46). -/
def execHostApertureRead (ha : BitVec 23) (st : Strobes) (s : State) : Host.Outcome State Fault Refusal :=
  .next (hostRead (State.apertureRead ha st) s)

/-- HOST_APERTURE_WRITE (R29). -/
def execHostApertureWrite (ha : BitVec 23) (st : Strobes) (hd : Half) (s : State) :
    Host.Outcome State Fault Refusal :=
  .next (hostWrite (State.apertureWrite ha st hd) s)

/-- STREAM_DATA_WRITE (R109). -/
def execStreamDataWrite (st : Strobes) (hd : Half) (s : State) : Host.Outcome State Fault Refusal :=
  .next (hostWrite (State.streamWrite st hd) s)

/-- STREAM_DATA_READ (R119). -/
def execStreamDataRead (st : Strobes) (s : State) : Host.Outcome State Fault Refusal :=
  .next (hostRead (State.streamRead st) s)

end Sys2Proof.Machine
end

