-- ==== Sys2Proof/Machine/PowerCommands.lean ====
section
/-! DEFINITION. The Power Controller's commands, MODULE_RESET, POWER_REQUEST, DATAPATH_RESET and the power-on
reset (R160 to R174). -/

namespace Sys2Proof.Machine

/-- Store the power state. -/
def State.setPower (p : PowerState) (s : State) : State := { s with power := { s.power with state := p } }

/-- Store S1 (R128, R130). -/
def State.setPowerLow (low : Bool) (s : State) : State := { s with settings := { s.settings with powerLow := low } }

/-- Enter QUIESCING (R162, R163). -/
def State.quiesce (s : State) : State := (s.setPower .quiescing).latchQuiesce

/-! ### Host settings S0 and S1 -/

/-- Set S0_NOTICE (R129). -/
def State.notice0 (s : State) : State :=
  { s with settings := { s.settings with notices := { s.settings.notices with s0 := true } } }

/-- Set S1_NOTICE (R129). -/
def State.notice1 (s : State) : State :=
  { s with settings := { s.settings with notices := { s.settings.notices with s1 := true } } }

/-- A host write of S0 (R171): 1 over 0 begins a module reset, 1 over 1 begins nothing, 0 is stored and sets
S0_NOTICE, which deasserts LRST when S0 was 1. -/
def State.writeModuleReset (v : Bool) (s : State) : State :=
  if v then (if s.settings.moduleReset then s else s.moduleResetBegin)
  else ({ s with settings := { s.settings with moduleReset := false } }).notice0

/-- A host write of S1 (R163): stored, S1_NOTICE set, and taken by the Power Controller. -/
def State.writePowerRequest (low : Bool) (s : State) : State :=
  let s1 := (s.setPowerLow low).notice1
  match s.power.state with
  | .starting => s1
  | .waking => s1
  | .active => if low then s1.quiesce else s1
  | .quiescing => if low then s1 else (s1.setPower .active).latchCancel
  | .dormant => if low then s1 else s1.wakeBy .hostRequest

/-! ### Power commands (R161) -/

/-- The wake settings are stored by every write of POWER_CMD, before its command (R180). -/
def State.storeWake (onAccess onAttention : Bool) (s : State) : State :=
  { s with power := { s.power with wakeOnAccess := onAccess, wakeOnAttention := onAttention } }

/-- The module becomes ready (R162, R168): ACTIVE and host POWER, and on to QUIESCING if S1 holds LOW. -/
def State.becomeReady (s : State) : State :=
  let s1 := (s.setPower .active).latchPower
  if s.settings.powerLow then s1.quiesce else s1

/-- MODULE_READY (R162, R168). -/
def State.takeReady (s : State) : State :=
  match s.power.state with
  | .starting => (s.becomeReady.powerResult .ok).poll
  | .waking => (s.becomeReady.powerResult .ok).poll
  | .active => s.powerResult .badState
  | .quiescing => s.powerResult .badState
  | .dormant => s.powerResult .badState

/-- REMAIN (R165). -/
def State.takeRemain (s : State) : State :=
  if s.power.state = .quiescing then
    (((s.setPower .active).setPowerLow false).latchPower).powerResult .ok
  else s.powerResult .badState

/-- The drain test of DORMANT_CONFIRM (R166). -/
def State.drained (s : State) : Bool :=
  s.pwq.records.isEmpty && s.slot.record.isNone && s.slot.orphan.isNone && s.inb.fifo.isEmpty &&
  s.master.transfer.isNone

/-- DORMANT_CONFIRM (R166). -/
def State.takeConfirm (s : State) : State :=
  if s.power.state = .quiescing then
    if s.drained then (((s.setPower .dormant).latchPower).powerResult .ok).poll
    else s.powerResult .notDrained
  else s.powerResult .badState

/-- WAKE (R167). -/
def State.takeWake (s : State) : State :=
  if s.power.state = .dormant then (s.wakeBy .loc).powerResult .ok else s.powerResult .badState

/-! ### The datapath reset command (R172) -/

/-- Set the discard flag of the transfer in flight (R81). -/
def State.discardTransfer (s : State) : State :=
  { s with master := { s.master with transfer := s.master.transfer.map (fun x => { x with discard := true }) } }

/-- DATAPATH_RESET (R172): BUSY while one is in progress; carried out at once with no transfer in flight; else in
progress until the transfer ends. -/
def State.takeDatapathReset (s : State) : State :=
  if s.power.resetBusy then s.resetResult .busy
  else
    match s.master.transfer with
    | none => (s.carryOut).resetResult .ok
    | some _ =>
      (({ s with power := { s.power with resetBusy := true } }).discardTransfer).resetResult .ok

/-! ### Meanings -/

/-- MODULE_RESET (R171). -/
def execModuleReset (v : Bool) (s : State) : Host.Outcome State Fault Refusal :=
  .next (hostWrite (State.writeModuleReset v) s)

/-- POWER_REQUEST (R163). -/
def execPowerRequest (low : Bool) (s : State) : Host.Outcome State Fault Refusal :=
  .next (hostWrite (State.writePowerRequest low) s)

/-- MODULE_READY (R162, R168, R180). -/
def execModuleReady (onAccess onAttention : Bool) (s : State) : Host.Outcome State Fault Refusal :=
  .next (localWrite (fun t => (t.storeWake onAccess onAttention).takeReady) s)

/-- REMAIN (R165, R180). -/
def execRemain (onAccess onAttention : Bool) (s : State) : Host.Outcome State Fault Refusal :=
  .next (localWrite (fun t => (t.storeWake onAccess onAttention).takeRemain) s)

/-- DORMANT_CONFIRM (R166, R180). -/
def execDormantConfirm (onAccess onAttention : Bool) (s : State) : Host.Outcome State Fault Refusal :=
  .next (localWrite (fun t => (t.storeWake onAccess onAttention).takeConfirm) s)

/-- WAKE (R167, R180). -/
def execWake (onAccess onAttention : Bool) (s : State) : Host.Outcome State Fault Refusal :=
  .next (localWrite (fun t => (t.storeWake onAccess onAttention).takeWake) s)

/-- DATAPATH_RESET (R172). -/
def execDatapathReset (s : State) : Host.Outcome State Fault Refusal :=
  .next (localWrite State.takeDatapathReset s)

/-- POWER_ON_RESET: PON asserted (R170). -/
def execPowerOnReset (s : State) : Host.Outcome State Fault Refusal := .next s.powerOn

/-- POWER_ON_RESET_END: PON deasserted; the bridge begins work in STARTING (R170). -/
def execPowerOnResetEnd (s : State) : Host.Outcome State Fault Refusal :=
  .next { s with pins := { s.pins with pon := false } }

end Sys2Proof.Machine
end

