-- ==== Sys2Proof/Machine/SettingsCommands.lean ====
section
/-! DEFINITION. The Settings Unit: EVENT_ENABLE, STALL_LIMIT, negotiated settings, proposals, answers and their
expiry, and the notice flags (R126 to R143). -/

namespace Sys2Proof.Machine

/-! ### Direct settings (R128, R129) -/

/-- A host write of S2: stored, S2_NOTICE set (R128, R129). -/
def State.writeEventEnable (v : BitVec 9) (s : State) : State :=
  { s with settings := { s.settings with eventEnable := v, notices := { s.settings.notices with s2 := true } } }

/-- A host write of S3: stored, S3_NOTICE set (R128, R129). -/
def State.writeStallLimit (v : BitVec 12) (s : State) : State :=
  { s with settings := { s.settings with stallLimit := v, notices := { s.settings.notices with s3 := true } } }

/-- A write of the notice register clears the flags written with one (R129). -/
def State.clearNotices (d : BitVec 4) (s : State) : State :=
  let n := s.settings.notices
  { s with settings := { s.settings with notices :=
      { s0 := n.s0 && !d.getLsbD 0, s1 := n.s1 && !d.getLsbD 1, s2 := n.s2 && !d.getLsbD 2,
        s3 := n.s3 && !d.getLsbD 3 } } }

/-! ### Proposals (R131 to R134, R138) -/

/-- Whether a value field is in a setting's range (R127). -/
def inRange (n : NegSetting) (v : BitVec 4) : Bool :=
  match n with
  | .attentionRoute => decide (v.toNat ≤ 2)
  | .streamEnable => decide (v.toNat ≤ 1)
  | .tableRights => decide (v.toNat ≤ 1)
  | .linePermit => decide (v.toNat ≤ 1)

/-- The setting's place in the Settings Table: its index less 4 (R126). -/
def negIndex : NegSetting → BitVec 3
  | .attentionRoute => 4#3
  | .streamEnable => 5#3
  | .tableRights => 6#3
  | .linePermit => 7#3

/-- The negotiated setting an index 0..7 names, none for a direct setting (R135). -/
def negOf (i : BitVec 3) : Option NegSetting :=
  if i = 4#3 then some .attentionRoute
  else if i = 5#3 then some .streamEnable
  else if i = 6#3 then some .tableRights
  else if i = 7#3 then some .linePermit
  else none

/-- The list without the proposals of a setting (R132, R133). -/
def withoutSetting (n : NegSetting) (l : List Proposal) : List Proposal :=
  l.filter (fun p => !decide (p.setting = n))

/-- The pending proposal of a setting. -/
def Settings.proposal? (g : Settings) (n : NegSetting) : Option Proposal :=
  g.proposals.find? (fun p => decide (p.setting = n))

/-- The answer timer of a proposal made now: none when ANSWER_LIMIT is 0 (R138). -/
def State.answerTimer (s : State) : Option Timer :=
  if s.settings.answerLimit = 0#8 then none
  else some { start := s.now, limit := Config.ticksPerMs * s.settings.answerLimit.toNat }

/-- An in-range host write makes a proposal at the tail; one of the same setting is superseded (R133). -/
def State.propose (n : NegSetting) (v : BitVec 4) (s : State) : State :=
  let f := s.settings.neg n
  let serial := f.serial + 1
  let g := s.settings.setNeg n { f with serial := serial, outcome := .pending, reason := 0 }
  let p : Proposal := { setting := n, serial := serial, value := v, timer := s.answerTimer }
  { s with settings := { g with proposals := withoutSetting n s.settings.proposals ++ [p] } }

/-- The end of a setting's proposal: removed, with an outcome and a reason, and host ANSWER latched (R132, R136, R137,
R139). -/
def State.endProposal (n : NegSetting) (o : SettingOutcome) (reason : BitVec 4) (s : State) : State :=
  let f := s.settings.neg n
  let g := s.settings.setNeg n { f with outcome := o, reason := reason }
  ({ s with settings := { g with proposals := withoutSetting n s.settings.proposals } }).latchAnswer

/-- A host write of a negotiated setting (R132, R133). -/
def State.writeNegotiated (n : NegSetting) (v : BitVec 4) (s : State) : State :=
  if inRange n v then s.propose n v else s.endProposal n .rejected 15#4

/-! ### Answers (R135 to R137, R140) -/

/-- A waiting LINE record becomes SINGLE when LINE_PERMIT becomes 0 (R55). -/
def State.lineToSingle (s : State) : State :=
  match s.slot.record with
  | some r => if r.phase = .inFlight then s else s.setRead (some { r with kind := .single })
  | none => s

/-- The acts of the dependent blocks when an accepted value has changed (R140). ATTENTION_LEVEL follows the route
(R157), and TABLE_RIGHTS is read when a command is taken. -/
def State.handChange (n : NegSetting) (v : BitVec 4) (s : State) : State :=
  match n with
  | .streamEnable => if v = 0#4 then s.stopIn.stopOut else s
  | .linePermit => if v = 0#4 then s.strikeAll.lineToSingle else s
  | .attentionRoute => s
  | .tableRights => s

/-- Store an accepted value. -/
def State.setAccepted (n : NegSetting) (v : BitVec 4) (s : State) : State :=
  { s with settings := s.settings.setNeg n { s.settings.neg n with accepted := v } }

/-- An ANSWER_ACCEPT that is taken (R136). -/
def State.acceptProposal (n : NegSetting) (v : BitVec 4) (s : State) : State :=
  let changed := decide ((s.settings.neg n).accepted ≠ v)
  let s1 := (s.setAccepted n v).endProposal n .accepted 0#4
  if changed then s1.handChange n v else s1

/-- The proposal an answer names, or the result that turns the answer away (R135). `reject` tells ANSWER_REJECT. -/
def State.answerCheck (s : State) (reject : Bool) (i : BitVec 3) (serial : BitVec 8) (reason : BitVec 4) :
    Except Result Proposal :=
  match negOf i with
  | none => .error .badField
  | some n =>
    if reject = true ∧ (reason = 0#4 ∨ reason = 15#4) then .error .badField
    else
      match s.settings.proposal? n with
      | some p => if p.serial = serial then .ok p else .error .stale
      | none => .error .stale

/-- ANSWER_ACCEPT (R135, R136). -/
def State.answerAccept (i : BitVec 3) (serial : BitVec 8) (reason : BitVec 4) (s : State) : State :=
  match s.answerCheck false i serial reason with
  | .ok p => ((s.acceptProposal p.setting p.value).answerResult .ok).poll
  | .error r => s.answerResult r

/-- ANSWER_REJECT (R135, R137). -/
def State.answerReject (i : BitVec 3) (serial : BitVec 8) (reason : BitVec 4) (s : State) : State :=
  match s.answerCheck true i serial reason with
  | .ok p => (s.endProposal p.setting .rejected reason).answerResult .ok
  | .error r => s.answerResult r

/-- The expiry of the answer timer of the setting's present proposal, if one runs (R139). The command names no serial:
taken after an in-range write that superseded n it is the expiry of n+1, and the order of R141 in which no expiry
follows has no such command (DESIGN CHOICE, log entry 24). -/
def State.expireProposal (n : NegSetting) (s : State) : State :=
  match s.settings.proposal? n with
  | some p =>
    match p.timer with
    | some t => ((s.reach t).endProposal n .expired 0#4).poll
    | none => s
  | none => s

/-! ### Meanings -/

/-- EVENT_ENABLE (R128). -/
def execEventEnable (v : BitVec 9) (s : State) : Host.Outcome State Fault Refusal :=
  .next (hostWrite (State.writeEventEnable v) s)

/-- STALL_LIMIT (R128). -/
def execStallLimit (v : BitVec 12) (s : State) : Host.Outcome State Fault Refusal :=
  .next (hostWrite (State.writeStallLimit v) s)

/-- NEGOTIATED_SETTING_WRITE (R133). -/
def execNegotiatedSettingWrite (n : NegSetting) (v : BitVec 4) (s : State) : Host.Outcome State Fault Refusal :=
  .next (hostWrite (State.writeNegotiated n v) s)

/-- NOTICE (R129). -/
def execNotice (d : BitVec 4) (s : State) : Host.Outcome State Fault Refusal :=
  .next (localWrite (State.clearNotices d) s)

/-- ANSWER_ACCEPT (R136). -/
def execAnswerAccept (i : BitVec 3) (serial : BitVec 8) (reason : BitVec 4) (s : State) :
    Host.Outcome State Fault Refusal :=
  .next (localWrite (State.answerAccept i serial reason) s)

/-- ANSWER_REJECT (R137). -/
def execAnswerReject (i : BitVec 3) (serial : BitVec 8) (reason : BitVec 4) (s : State) :
    Host.Outcome State Fault Refusal :=
  .next (localWrite (State.answerReject i serial reason) s)

/-- ANSWER_EXPIRY (R139). -/
def execAnswerExpiry (n : NegSetting) (s : State) : Host.Outcome State Fault Refusal :=
  .next (unlessPon (State.expireProposal n) s)

end Sys2Proof.Machine
end

