-- ==== Sys2Proof/Machine/StreamCommands.lean ====
section
/-! DEFINITION. The stream commands of both windows: messages, flags, ring settings, indices and channel states
(R103 to R122). -/

namespace Sys2Proof.Machine

/-! ### Host stream commands (R114, R121, R122) -/

/-- END (R114). -/
def State.takeEnd (s : State) : State :=
  let r := s.endResult
  if r = .ok then ((s.setInb s.inb.ended).hostStreamResult .ok).poll else s.hostStreamResult r

/-- NEXT (R121). -/
def State.takeNext (s : State) : State :=
  if s.power.resetBusy then s.hostStreamResult .notReady
  else if s.outb.marks = [] then s.hostStreamResult .noMessage
  else (((s.skipMessage).latchMarkTaken).hostStreamResult .ok).poll

/-- A write of the host stream status clears the flags written with one (R122). -/
def State.clearStreamFlags (d : Half) (s : State) : State :=
  { s with stream := { s.stream with
      refused := s.stream.refused && !d.getLsbD 8, dropped := s.stream.dropped && !d.getLsbD 9,
      emptyRead := s.stream.emptyRead && !d.getLsbD 10 } }

/-! ### Ring settings and indices (R103, R105, R179) -/

/-- A write of IN_BASE: taken while OFF, with the indices and the list cleared (R103). -/
def State.writeInBase (d : Word) (s : State) : State :=
  if s.inb.state = .off then
    s.setInb { s.inb with base := d.extractLsb' 8 24, produce := 0, consume := 0, boundaries := [] }
  else s

/-- A write of IN_CONFIG: the size while OFF, with the indices and the list cleared; mode and hold in every state. A
change of the mode to DROP ends a held write (R103, R110, R179), but not while a datapath reset is in progress, where
the host stays held (R124, R172; log entry 21). -/
def State.writeInConfig (d : Word) (s : State) : State :=
  let s1 :=
    if s.inb.state = .off then
      s.setInb { s.inb with size := d.extractLsb' 0 4, produce := 0, consume := 0, boundaries := [] }
    else s
  let s2 := s1.setInb { s1.inb with drop := d.getLsbD 8, hold := d.extractLsb' 16 4 }
  if d.getLsbD 8 then unlessResetting State.dropHeldStream s2 else s2

/-- A write of OUT_BASE: taken while OFF, with the indices and the list cleared (R103). -/
def State.writeOutBase (d : Word) (s : State) : State :=
  if s.outb.state = .off then
    s.setOutb { s.outb with base := d.extractLsb' 8 24, produce := 0, fetch := 0, consume := 0, marks := [] }
  else s

/-- A write of OUT_CONFIG: the size while OFF, with the indices and the list cleared; the hold in every state (R103,
R179). -/
def State.writeOutConfig (d : Word) (s : State) : State :=
  let s1 :=
    if s.outb.state = .off then
      s.setOutb { s.outb with size := d.extractLsb' 0 4, produce := 0, fetch := 0, consume := 0, marks := [] }
    else s
  s1.setOutb { s1.outb with hold := d.extractLsb' 16 4 }

/-- A local write of a ring setting register (R103). -/
def State.writeRing (r : RingReg) (d : Word) (s : State) : State :=
  match r with
  | .inBase => s.writeInBase d
  | .inConfig => s.writeInConfig d
  | .outBase => s.writeOutBase d
  | .outConfig => s.writeOutConfig d

/-- A local write of IN_CONSUME: checked, and refused while a datapath reset is in progress (R105, R179). -/
def State.writeInConsume (d : Word) (s : State) : State :=
  if !s.power.resetBusy && indexField d && s.inb.consumeOk d.toNat then
    (s.setInb { s.inb with consume := d.toNat }).poll
  else s.flagIndexRefused

/-- A local write of OUT_PRODUCE: checked, and refused while a datapath reset is in progress; a held read is judged
anew (R105, R120, R179). -/
def State.writeOutProduce (d : Word) (s : State) : State :=
  if !s.power.resetBusy && indexField d && s.outb.produceOk d.toNat then
    ((s.setOutb { s.outb with produce := d.toNat }).judgeRead).poll
  else s.flagIndexRefused

/-- INDEX_REFUSED cleared (R105). -/
def State.clearIndexRefused (s : State) : State := { s with stream := { s.stream with indexRefused := false } }

/-! ### Local stream commands (section 6.2) -/

/-- A local stream command answers BUSY while a datapath reset is in progress (R124, R178). -/
def State.streamCommand (f : State → State) (s : State) : State :=
  if s.power.resetBusy then s.localStreamResult .busy else f s

/-- IN_START (R106). -/
def State.takeInStart (s : State) : State :=
  let r := s.inStartResult
  if r = .ok then ((s.setInb { s.inb with state := .running }).localStreamResult .ok).poll
  else s.localStreamResult r

/-- IN_STOP (R106). -/
def State.takeInStop (s : State) : State :=
  match s.inb.state with
  | .running => (s.stopIn.localStreamResult .ok).poll
  | .halted => (s.stopIn.localStreamResult .ok).poll
  | .flushing => s.localStreamResult .badState
  | .off => s.localStreamResult .badState

/-- IN_RESTART (R106). -/
def State.takeInRestart (s : State) : State :=
  if s.inb.state = .halted then ((s.setInb { s.inb with state := .running }).localStreamResult .ok).poll
  else s.localStreamResult .badState

/-- IN_POP (R115). -/
def State.takeInPop (s : State) : State :=
  let r := s.inPopResult
  (if r = .ok then s.setInb { s.inb with boundaries := s.inb.boundaries.tail } else s).localStreamResult r

/-- OUT_START (R107). -/
def State.takeOutStart (s : State) : State :=
  let r := s.outStartResult
  if r = .ok then ((s.setOutb { s.outb with state := .running }).localStreamResult .ok).poll
  else s.localStreamResult r

/-- OUT_STOP (R107). -/
def State.takeOutStop (s : State) : State :=
  if s.outb.state = .off then s.localStreamResult .badState else (s.stopOut.localStreamResult .ok).poll

/-- OUT_RESTART (R107). -/
def State.takeOutRestart (s : State) : State :=
  if s.outb.state = .halted then ((s.setOutb { s.outb with state := .running }).localStreamResult .ok).poll
  else s.localStreamResult .badState

/-- OUT_MARK (R116). -/
def State.takeOutMark (p : BitVec 17) (s : State) : State :=
  let r := s.outb.markResult p.toNat
  if r = .ok then ((s.takeMark p.toNat).localStreamResult .ok).poll else s.localStreamResult r

/-! ### Meanings -/

/-- END (R114). -/
def execEnd (s : State) : Host.Outcome State Fault Refusal := .next (hostWrite State.takeEnd s)

/-- NEXT (R121). -/
def execNext (s : State) : Host.Outcome State Fault Refusal := .next (hostWrite State.takeNext s)

/-- STREAM_STATUS (R122). -/
def execStreamStatus (d : Half) (s : State) : Host.Outcome State Fault Refusal :=
  .next (hostWrite (State.clearStreamFlags d) s)

/-- RING_SETTING_WRITE (R103). -/
def execRingSettingWrite (r : RingReg) (d : Word) (s : State) : Host.Outcome State Fault Refusal :=
  .next (localWrite (State.writeRing r d) s)

/-- IN_CONSUME (R105). -/
def execInConsume (d : Word) (s : State) : Host.Outcome State Fault Refusal :=
  .next (localWrite (State.writeInConsume d) s)

/-- OUT_PRODUCE (R105). -/
def execOutProduce (d : Word) (s : State) : Host.Outcome State Fault Refusal :=
  .next (localWrite (State.writeOutProduce d) s)

/-- INDEX_REFUSED_CLEAR (R105). -/
def execIndexRefusedClear (s : State) : Host.Outcome State Fault Refusal :=
  .next (localWrite State.clearIndexRefused s)

/-- IN_START (R106). -/
def execInStart (s : State) : Host.Outcome State Fault Refusal :=
  .next (localWrite (State.streamCommand State.takeInStart) s)

/-- IN_STOP (R106). -/
def execInStop (s : State) : Host.Outcome State Fault Refusal :=
  .next (localWrite (State.streamCommand State.takeInStop) s)

/-- IN_RESTART (R106). -/
def execInRestart (s : State) : Host.Outcome State Fault Refusal :=
  .next (localWrite (State.streamCommand State.takeInRestart) s)

/-- IN_POP (R115). -/
def execInPop (s : State) : Host.Outcome State Fault Refusal :=
  .next (localWrite (State.streamCommand State.takeInPop) s)

/-- OUT_START (R107). -/
def execOutStart (s : State) : Host.Outcome State Fault Refusal :=
  .next (localWrite (State.streamCommand State.takeOutStart) s)

/-- OUT_STOP (R107). -/
def execOutStop (s : State) : Host.Outcome State Fault Refusal :=
  .next (localWrite (State.streamCommand State.takeOutStop) s)

/-- OUT_RESTART (R107). -/
def execOutRestart (s : State) : Host.Outcome State Fault Refusal :=
  .next (localWrite (State.streamCommand State.takeOutRestart) s)

/-- OUT_MARK (R116). -/
def execOutMark (p : BitVec 17) (s : State) : Host.Outcome State Fault Refusal :=
  .next (localWrite (State.streamCommand (State.takeOutMark p)) s)

end Sys2Proof.Machine
end

