-- ==== Sys2Proof/Machine/TableCommands.lean ====
section
/-! DEFINITION. The table commands OPEN, CLOSE, RESUME, RETARGET and SET_EDITABLE (R5 to R10). -/

namespace Sys2Proof.Machine

/-- The five table commands (R5). -/
inductive TableCmd where
  | openCmd | closeCmd | resumeCmd | retargetCmd | setEditableCmd
  deriving DecidableEq, Repr

/-- The staging record of a window (R3). -/
def State.staging (s : State) (w : Window) : Staging :=
  match w with
  | .host => s.table.hostStage
  | .loc => s.table.localStage

/-- Whether a staged aperture shares a host page with an entry that is not EMPTY (R6). -/
def State.overlaps (s : State) (ap : Aperture) : Bool :=
  allEntries.any (fun e =>
    match s.live e with
    | some l => rangesMeet ap.page ap.size l.ap.page l.ap.size
    | none => false)

/-- The checks of R5 that come before a command's own: BUSY, and the host's rights. OK stands for none failed. -/
def State.tableRightsResult (s : State) (w : Window) (c : TableCmd) : Result :=
  if s.power.resetBusy then .busy
  else
    match w with
    | .loc => .ok
    | .host =>
      if c = .setEditableCmd then .notPermitted
      else if s.tableRights && s.table.entries[(s.staging .host).target].editable then .ok
      else .notPermitted

/-- OPEN's own checks, in order (R6). -/
def State.openResult (s : State) (g : Staging) : Result :=
  match s.live g.target with
  | some _ => .badState
  | none =>
    match g.aperture with
    | none => .badField
    | some ap =>
      if ap.page.toNat % pageCount ap.size ≠ 0 then .misaligned
      else if s.overlaps ap then .overlap
      else .ok

/-- CLOSE's own check (R7). -/
def State.closeResult (s : State) (e : EntryIdx) : Result :=
  match s.live e with
  | some l => if l.phase = .draining then .badState else .ok
  | none => .badState

/-- RESUME's own check (R8). -/
def State.resumeResult (s : State) (e : EntryIdx) : Result :=
  match s.live e with
  | some l => if l.phase = .suspended then .ok else .badState
  | none => .badState

/-- RETARGET's own checks, in order (R9). -/
def State.retargetResult (s : State) (e : EntryIdx) : Result :=
  match s.live e with
  | some l => if l.phase ≠ .opened then .badState else if s.pendingWork e then .pendingWork else .ok
  | none => .badState

/-- The result of a table command (R5 to R10). -/
def State.tableCmdResult (s : State) (w : Window) (c : TableCmd) : Result :=
  match s.tableRightsResult w c with
  | .ok =>
    match c with
    | .openCmd => s.openResult (s.staging w)
    | .closeCmd => s.closeResult (s.staging w).target
    | .resumeCmd => s.resumeResult (s.staging w).target
    | .retargetCmd => s.retargetResult (s.staging w).target
    | .setEditableCmd => .ok
  | r => r

/-- The entry an OPEN makes (R6). -/
def openedEntry (ap : Aperture) : LiveEntry := { phase := .opened, ap := ap, slideCount := 0, refused := 0 }

/-- An accepted OPEN (R6). -/
def State.openEffect (g : Staging) (s : State) : State :=
  match g.aperture with
  | some ap => s.setLive g.target (some (openedEntry ap))
  | none => s

/-- A write of a closing entry in SLOT_WAIT is ended (R14). -/
def State.endWaitingOf (e : EntryIdx) (s : State) : State :=
  match s.pwq.held with
  | .slotWait w => if w.entry = e then s.endWaiting w else s
  | .recordWait _ => s
  | .none => s

/-- An accepted CLOSE (R7): DRAINING while an OPEN entry has records, else EMPTY; the entry's lines are struck and
its waiting write is ended (R14). -/
def State.closeEffect (e : EntryIdx) (s : State) : State :=
  match s.live e with
  | some l =>
    (((if l.phase = .opened ∧ s.hasRecord e = true then s.setLive e (some { l with phase := .draining })
       else s.setLive e none).strikeEntry e).endWaitingOf e)
  | none => s

/-- An accepted RESUME (R8). -/
def State.resumeEffect (e : EntryIdx) (s : State) : State :=
  match s.live e with
  | some l => s.setLive e (some { l with phase := .opened, refused := 0 })
  | none => s

/-- An accepted RETARGET (R9). -/
def State.retargetEffect (e : EntryIdx) (base : BitVec 20) (s : State) : State :=
  match s.live e with
  | some l => (s.setLive e (some { l with ap := { l.ap with base := base }, slideCount := 0 })).strikeEntry e
  | none => s

/-- SET_EDITABLE's effect (R10). -/
def State.setEditableEffect (e : EntryIdx) (v : Bool) (s : State) : State :=
  { s with table := { s.table with
      entries := s.table.entries.set e { s.table.entries[e] with editable := v } } }

/-- The effect of a table command that passes its checks (R6 to R10). -/
def State.tableEffect (w : Window) (c : TableCmd) (s : State) : State :=
  match c with
  | .openCmd => s.openEffect (s.staging w)
  | .closeCmd => s.closeEffect (s.staging w).target
  | .resumeCmd => s.resumeEffect (s.staging w).target
  | .retargetCmd => s.retargetEffect (s.staging w).target (s.staging w).base
  | .setEditableCmd => s.setEditableEffect (s.staging w).target (s.staging w).editable

/-- A table command taken whole: its effect if every check passes, and its result (R5). -/
def State.tableCommand (w : Window) (c : TableCmd) (s : State) : State :=
  let r := s.tableCmdResult w c
  (if r = .ok then s.tableEffect w c else s).tableResult w r

/-- A table command from a window, where that window's writes are taken (R5, R175, R176). -/
def tableAccess (w : Window) (c : TableCmd) (s : State) : State :=
  match w with
  | .host => hostWrite (State.tableCommand .host c) s
  | .loc => localWrite (State.tableCommand .loc c) s

/-- OPEN (R6). -/
def execOpen (w : Window) (s : State) : Host.Outcome State Fault Refusal := .next (tableAccess w .openCmd s)

/-- CLOSE (R7). -/
def execClose (w : Window) (s : State) : Host.Outcome State Fault Refusal := .next (tableAccess w .closeCmd s)

/-- RESUME (R8). -/
def execResume (w : Window) (s : State) : Host.Outcome State Fault Refusal := .next (tableAccess w .resumeCmd s)

/-- RETARGET (R9). -/
def execRetarget (w : Window) (s : State) : Host.Outcome State Fault Refusal := .next (tableAccess w .retargetCmd s)

/-- SET_EDITABLE (R10). -/
def execSetEditable (w : Window) (s : State) : Host.Outcome State Fault Refusal :=
  .next (tableAccess w .setEditableCmd s)

end Sys2Proof.Machine
end

