-- ==== Sys2Proof/Machine/RegisterWrite.lean ====
section
/-! DEFINITION. REGISTER_WRITE: the write decode of both register windows (R175 to R180, Tables 10-1 and 10-2). A
write of a register that has a row of its own does here what that row does (log entry 7). -/

namespace Sys2Proof.Machine

/-! ### Stored fields (R3, R4, R66, R122, R138, R179) -/

/-- Store the host staging record. -/
def State.setHostStage (g : Staging) (s : State) : State := { s with table := { s.table with hostStage := g } }

/-- Store the local staging record. -/
def State.setLocalStage (g : Staging) (s : State) : State := { s with table := { s.table with localStage := g } }

/-- A host write of the staging PAGE register (Table 10-3). -/
def Staging.withPage (hd : Half) (g : Staging) : Staging :=
  { g with page := hd.extractLsb' 0 12, size := hd.extractLsb' 12 4 }

/-- A host write of LBASE_LO: local address bits 27:12 (Table 10-3). -/
def Staging.withBaseLow (hd : Half) (g : Staging) : Staging := { g with base := g.base.extractLsb' 16 4 ++ hd }

/-- A host write of LBASE_HI: local address bits 31:28 (Table 10-3). -/
def Staging.withBaseHigh (hd : Half) (g : Staging) : Staging :=
  { g with base := hd.extractLsb' 0 4 ++ g.base.extractLsb' 0 16 }

/-- A host write of the staging MODE register; bit 15 is ignored (Table 10-3). -/
def Staging.withMode (hd : Half) (g : Staging) : Staging :=
  { g with access := hd.extractLsb' 0 2, strict := hd.getLsbD 2, streaming := hd.getLsbD 3, combine := hd.getLsbD 4,
           swapped := hd.getLsbD 5, slide := hd.getLsbD 6, hold := hd.extractLsb' 8 4,
           target := idx8 (hd.extractLsb' 12 3) }

/-- A local write of the staging register A (Table 10-3). -/
def Staging.withA (ld : Word) (g : Staging) : Staging :=
  { g with page := ld.extractLsb' 0 12, size := ld.extractLsb' 12 4, access := ld.extractLsb' 16 2,
           strict := ld.getLsbD 18, streaming := ld.getLsbD 19, combine := ld.getLsbD 20, swapped := ld.getLsbD 21,
           slide := ld.getLsbD 22, hold := ld.extractLsb' 24 4, target := idx8 (ld.extractLsb' 28 3),
           editable := ld.getLsbD 31 }

/-- A local write of the staging register LBASE (Table 10-3). -/
def Staging.withBase (ld : Word) (g : Staging) : Staging := { g with base := ld.extractLsb' 12 20 }

/-- Store a window's View selection (R4). -/
def State.selectView (w : Window) (e : EntryIdx) (s : State) : State :=
  match w with
  | .host => { s with table := { s.table with hostView := e } }
  | .loc => { s with table := { s.table with localView := e } }

/-- The nearer end of a range for a value outside it (R122). -/
def clampTo (lo hi v : BitVec 6) : BitVec 6 := if v < lo then lo else if hi < v then hi else v

/-- A host write of IN_THRESHOLD: the range 2..32 (R122). -/
def State.writeInThreshold (v : BitVec 6) (s : State) : State :=
  { s with stream := { s.stream with inThreshold := clampTo 2#6 32#6 v } }

/-- A host write of OUT_THRESHOLD: the range 1..32 (R122). -/
def State.writeOutThreshold (v : BitVec 6) (s : State) : State :=
  { s with stream := { s.stream with outThreshold := clampTo 1#6 32#6 v } }

/-- A local write of ANSWER_LIMIT; a running answer timer keeps the limit it started with (R138). -/
def State.writeAnswerLimit (v : BitVec 8) (s : State) : State :=
  { s with settings := { s.settings with answerLimit := v } }

/-- A local write of ACK_LIMIT: 0 leaves it, and the beat presented keeps its own (R66). -/
def State.writeAckLimit (v : BitVec 8) (s : State) : State :=
  if v = 0#8 then s else { s with master := { s.master with ackLimit := v } }

/-! ### Command registers (R178). A command field of 0 issues nothing; an unnamed value answers BAD_FIELD -/

/-- A write of TABLE_CMD: BUSY comes before BAD_FIELD (R5, R178). -/
def State.tableCode (w : Window) (c : BitVec 4) (s : State) : State :=
  match c.toNat with
  | 0 => s
  | 1 => s.tableCommand w .openCmd
  | 2 => s.tableCommand w .closeCmd
  | 3 => s.tableCommand w .resumeCmd
  | 4 => s.tableCommand w .retargetCmd
  | 5 => s.tableCommand w .setEditableCmd
  | _ => s.tableResult w (if s.power.resetBusy then .busy else .badField)

/-- A write of FAULT_CMD; CLEAR_LOST is named in the local window only (R93, R94, R178). -/
def State.faultCode (w : Window) (c : BitVec 4) (s : State) : State :=
  match c.toNat, w with
  | 0, _ => s
  | 1, _ => s.popFault w
  | 2, .loc => s.clearLost
  | _, _ => s.popResult w .badField

/-- A write of NOTE_CMD (R154, R178). -/
def State.noteCode (c : BitVec 4) (s : State) : State :=
  match c.toNat with
  | 0 => s
  | 1 => s.popNote
  | _ => s.noteResult .badField

/-- A write of the host STREAM_CMD (R114, R121, R178). -/
def State.hostStreamCode (c : BitVec 4) (s : State) : State :=
  match c.toNat with
  | 0 => s
  | 1 => s.takeEnd
  | 2 => s.takeNext
  | _ => s.hostStreamResult .badField

/-- A write of the local STREAM_CMD: BUSY comes before BAD_FIELD (section 6.2, R178). -/
def State.localStreamCode (c : BitVec 4) (position : BitVec 17) (s : State) : State :=
  match c.toNat with
  | 0 => s
  | 1 => s.streamCommand State.takeInStart
  | 2 => s.streamCommand State.takeInStop
  | 3 => s.streamCommand State.takeInRestart
  | 4 => s.streamCommand State.takeInPop
  | 5 => s.streamCommand State.takeOutStart
  | 6 => s.streamCommand State.takeOutStop
  | 7 => s.streamCommand State.takeOutRestart
  | 8 => s.streamCommand (State.takeOutMark position)
  | _ => s.streamCommand (State.localStreamResult .badField)

/-- A write of ANSWER with its operands (R135, R178). -/
def State.answerCode (c : BitVec 4) (i : BitVec 3) (reason : BitVec 4) (serial : BitVec 8) (s : State) : State :=
  match c.toNat with
  | 0 => s
  | 1 => s.answerAccept i serial reason
  | 2 => s.answerReject i serial reason
  | _ => s.answerResult .badField

/-- A write of POWER_CMD: the wake settings are stored first, whatever the command field (R161, R178, R180). -/
def State.powerCode (c : BitVec 4) (onAccess onAttention : Bool) (s : State) : State :=
  let s1 := s.storeWake onAccess onAttention
  match c.toNat with
  | 0 => s1
  | 1 => s1.takeReady
  | 2 => s1.takeRemain
  | 3 => s1.takeConfirm
  | 4 => s1.takeWake
  | _ => s1.powerResult .badField

/-- A write of DATAPATH_RESET (R172, R178). -/
def State.resetCode (c : BitVec 4) (s : State) : State :=
  match c.toNat with
  | 0 => s
  | 1 => s.takeDatapathReset
  | _ => s.resetResult .badField

/-- A write of INVALIDATE_LINES (R54, R178). -/
def State.invalidateCode (c : BitVec 4) (s : State) : State :=
  match c.toNat with
  | 0 => s
  | 1 => s.takeInvalidate
  | _ => s.lineResult .badField

/-! ### The windows -/

/-- A halfword write of a host register, by its offset (R175, Table 10-1). -/
def State.hostRegister (reg : BitVec 6) (hd : Half) (s : State) : State :=
  match 2 * reg.toNat with
  | 0x08 => s.writeModuleReset (hd.getLsbD 0)
  | 0x0A => s.writePowerRequest (hd.getLsbD 0)
  | 0x0C => s.writeEventEnable (hd.extractLsb' 0 9)
  | 0x0E => s.writeStallLimit (hd.extractLsb' 0 12)
  | 0x10 => s.writeNegotiated .attentionRoute (hd.extractLsb' 0 4)
  | 0x12 => s.writeNegotiated .streamEnable (hd.extractLsb' 0 4)
  | 0x14 => s.writeNegotiated .tableRights (hd.extractLsb' 0 4)
  | 0x16 => s.writeNegotiated .linePermit (hd.extractLsb' 0 4)
  | 0x20 => s.clearHostEvents hd
  | 0x24 => s.faultCode .host (hd.extractLsb' 0 4)
  | 0x3A => s.noteCode (hd.extractLsb' 0 4)
  | 0x40 => s.setHostStage (s.table.hostStage.withPage hd)
  | 0x42 => s.setHostStage (s.table.hostStage.withBaseLow hd)
  | 0x44 => s.setHostStage (s.table.hostStage.withBaseHigh hd)
  | 0x46 => s.setHostStage (s.table.hostStage.withMode hd)
  | 0x48 => s.tableCode .host (hd.extractLsb' 0 4)
  | 0x4A => s.selectView .host (idx8 (hd.extractLsb' 0 3))
  | 0x62 => s.clearStreamFlags hd
  | 0x68 => s.writeInThreshold (hd.extractLsb' 0 6)
  | 0x6A => s.writeOutThreshold (hd.extractLsb' 0 6)
  | 0x6C => s.hostStreamCode (hd.extractLsb' 0 4)
  | _ => s

/-- A host window write: Stream Data takes bytes, any other register acts on a halfword only (R175). -/
def State.hostWindowWrite (reg : BitVec 6) (st : Strobes) (hd : Half) (s : State) : State :=
  if 2 * reg.toNat = 0x60 then s.streamWrite st hd
  else if bothStrobes st then s.hostRegister reg hd
  else s

/-- A full-word write of a local register, by its offset (R176, Table 10-2). -/
def State.localRegister (reg : BitVec 6) (ld : Word) (s : State) : State :=
  match 4 * reg.toNat with
  | 0x08 => s.powerCode (ld.extractLsb' 0 4) (ld.getLsbD 16) (ld.getLsbD 17)
  | 0x0C => s.resetCode (ld.extractLsb' 0 4)
  | 0x10 => s.clearNotices (ld.extractLsb' 0 4)
  | 0x20 => s.answerCode (ld.extractLsb' 0 4) (ld.extractLsb' 16 3) (ld.extractLsb' 20 4) (ld.extractLsb' 24 8)
  | 0x24 => s.writeAnswerLimit (ld.extractLsb' 0 8)
  | 0x28 => s.clearLocalEvents ld
  | 0x2C => s.writeMask (ld.extractLsb' 0 12)
  | 0x34 => s.faultCode .loc (ld.extractLsb' 0 4)
  | 0x48 => s.setLocalStage (s.table.localStage.withA ld)
  | 0x4C => s.setLocalStage (s.table.localStage.withBase ld)
  | 0x50 => s.tableCode .loc (ld.extractLsb' 0 4)
  | 0x54 => s.selectView .loc (idx8 (ld.extractLsb' 0 3))
  | 0x64 => s.invalidateCode (ld.extractLsb' 0 4)
  | 0x68 => s.writeFreshness (ld.extractLsb' 0 8)
  | 0x6C => s.writeAckLimit (ld.extractLsb' 0 8)
  | 0x70 => s.writeGrantPatience (ld.extractLsb' 0 8)
  | 0x74 => s.writeYieldHonor (ld.getLsbD 0)
  | 0x78 => s.writeRing .inBase ld
  | 0x7C => s.writeRing .inConfig ld
  | 0x80 => s.writeRing .outBase ld
  | 0x84 => s.writeRing .outConfig ld
  | 0x8C => s.writeInConsume ld
  | 0x90 => s.writeOutProduce ld
  | 0x9C => s.localStreamCode (ld.extractLsb' 0 4) (ld.extractLsb' 15 17)
  | 0xA0 => if ld.getLsbD 8 then s.clearIndexRefused else s
  | 0xB0 => s.postNote (ld.extractLsb' 0 16)
  | 0xB4 => if ld.getLsbD 8 then s.clearNoteFull else s
  | _ => s

/-- A local window write acts only with all four lanes (R176). -/
def State.localWindowWrite (reg : BitVec 6) (lbe : BitVec 4) (ld : Word) (s : State) : State :=
  if lbe = 0xF#4 then s.localRegister reg ld else s

/-- REGISTER_WRITE (R179). -/
def execRegisterWrite (a : RegWrite) (s : State) : Host.Outcome State Fault Refusal :=
  .next (match a with
    | .host reg st hd => hostWrite (State.hostWindowWrite reg st hd) s
    | .loc reg lbe ld => localWrite (State.localWindowWrite reg lbe ld) s)

end Sys2Proof.Machine
end

