-- ==== Sys2Proof/Machine/TimerEvents.lean ====
section
/-! DEFINITION. The expiries of the bridge's own timers (R41, R56, R58, R66, R72, R76, R86, R111). An expiry of a
timer that does not run changes nothing; one that runs also says the time (log entry 2). A command is the expiry of the
timer that runs when it is taken (log entry 24). -/

namespace Sys2Proof.Machine

/-! ### The Stall Monitor (R86) -/

/-- The STALL record of a write in SLOT_WAIT (R90). -/
def slotWaitFault (w : HostWrite) : FaultRecord :=
  { kind := .stall, origin := if w.strict then .strictWrite else .postedWrite, direction := .write,
    entry := some w.entry, hostAddr := some w.hostAddr, localAddr := some w.word, seq := none, dropped := none,
    inFlight := some false }

/-- The STALL record of a STRICT write in RECORD_WAIT (R90). -/
def recordWaitFault (r : WriteRecord) : FaultRecord :=
  { kind := .stall, origin := .strictWrite, direction := .write, entry := some r.entry, hostAddr := some r.hostAddr,
    localAddr := some r.word, seq := some r.seq, dropped := none, inFlight := some r.inFlight }

/-- The STALL record of a host read (R90). -/
def readFault (r : ReadRecord) : FaultRecord :=
  { kind := .stall, origin := r.kind.origin, direction := .read, entry := some r.entry, hostAddr := some r.hostAddr,
    localAddr := some r.faultAddr, seq := none, dropped := none, inFlight := some (decide (r.phase = .inFlight)) }

/-- The STALL record of a Stream Data access (R90). -/
def streamFault (o : FaultOrigin) (d : Direction) : FaultRecord :=
  { kind := .stall, origin := o, direction := d, entry := none, hostAddr := none, localAddr := none, seq := none,
    dropped := none, inFlight := some false }

/-- The record a host in RECORD_WAIT waits on: the newest with its sequence number (R28). -/
def Pwq.waited (p : Pwq) (q : BitVec 8) : Option WriteRecord := p.records.reverse.find? (fun r => decide (r.seq = q))

/-- That record withdrawn; the records before and after it keep their order (R41). -/
def State.withdraw (q : BitVec 8) (s : State) : State :=
  { s with pwq := { s.pwq with records := (s.pwq.records.reverse.eraseP (fun r => decide (r.seq = q))).reverse } }

/-- A held write ended by the Stall Monitor (R41): one in SLOT_WAIT is discarded, a queued STRICT record is
withdrawn, one in flight is left to its end. The withdrawal may empty a DRAINING entry (R12, R41) also while a
datapath reset is in progress, where R24 says that entries cannot change: DESIGN CHOICE, log entry 19. -/
def State.stallWrite (s : State) : State :=
  match s.pwq.held with
  | .slotWait w => ((s.setHeld .none).releaseHost .written).fault (slotWaitFault w)
  | .recordWait q =>
    let s1 := (s.setHeld .none).releaseHost .written
    match s.pwq.waited q with
    | some r =>
      if r.inFlight then s1.fault (recordWaitFault r)
      else (((s1.withdraw q).afterLeave r.entry).fault (recordWaitFault r))
    | none => s1
  | .none => s.releaseHost s.hostReply

/-- A held read ended by the Stall Monitor (R58): filler; one in flight becomes the orphan. -/
def State.stallRead (s : State) : State :=
  match s.slot.record with
  | some r =>
    let s1 := s.fillRead
    (if r.phase = .inFlight then s1.setOrphan (some { entry := r.entry, kind := r.kind, line := r.line })
     else s1).fault (readFault r)
  | none => s.releaseHost s.hostReply

/-- A held Stream Data write ended by the Stall Monitor: bytes discarded, message DAMAGED (R86, R110). -/
def State.stallStreamIn (s : State) : State :=
  match s.inb.held with
  | some _ => ((s.setInb { s.inb with held := none, damaged := true }).releaseHost .written).fault
      (streamFault .streamIn .write)
  | none => s.releaseHost s.hostReply

/-- A held Stream Data read ended by the Stall Monitor: filler, no byte taken (R86, R120). -/
def State.stallStreamOut (s : State) : State :=
  match s.outb.held with
  | some _ => ((s.setOutb { s.outb with held := none }).releaseHost fillerReply).fault (streamFault .streamOut .read)
  | none => s.releaseHost s.hostReply

/-- The expiry of the stall timer: the holder ends the held transaction (R86). -/
def State.expireStall (s : State) : State :=
  match s.stall with
  | some t =>
    let s1 := s.reach t.timer
    (match t.holder with
      | .pwq => s1.stallWrite
      | .readSlot => s1.stallRead
      | .inbound => s1.stallStreamIn
      | .outbound => s1.stallStreamOut).poll
  | none => s

/-! ### The other timers -/

/-- The expiry of the beat timer that runs when the command is taken: the transfer ends LOCAL_TIMEOUT (R66). The order
of R66 in which a LACK stops the timer has no such command (DESIGN CHOICE, log entry 24). -/
def State.expireBeat (s : State) : State :=
  match s.master.transfer with
  | some x => (s.reach x.beatTimer).failBeat .localTimeout
  | none => s

/-- The expiry of the hold timer: the master releases (R72). -/
def State.expireHold (s : State) : State :=
  match s.master.own with
  | .holding t => (s.reach t).release
  | _ => s

/-- The expiry of the grant patience timer (R76). -/
def State.expireGrantPatience (s : State) : State :=
  match s.master.own with
  | .requesting since .running =>
    (s.reach { start := since, limit := s.master.grantPatience.toNat }).expirePatience since
  | _ => s

/-- The expiry of the linger timer (R111). -/
def State.expireLinger (s : State) : State :=
  match s.inb.linger with
  | .running t =>
    ((s.reach { start := t, limit := Config.lingerLimit }).setInb { s.inb with linger := .passed }).poll
  | _ => s

/-- The expiry of a VALID line's age; none expires while FRESHNESS is 0 (R56). -/
def State.expireLine (i : LineIdx) (s : State) : State :=
  match s.lineset.line i with
  | .valid _ _ _ t =>
    if s.lineset.freshness = 0#8 then s
    else ((s.reach { start := t, limit := s.lineset.freshness.toNat }).setLine i .invalid).poll
  | _ => s

/-! ### Meanings -/

/-- STALL_EXPIRY (R86). -/
def execStallExpiry (s : State) : Host.Outcome State Fault Refusal :=
  .next (unlessPon State.expireStall s)

/-- ACK_LIMIT_EXPIRY (R66). -/
def execAckLimitExpiry (s : State) : Host.Outcome State Fault Refusal :=
  .next (unlessPon State.expireBeat s)

/-- HOLD_EXPIRY (R72). -/
def execHoldExpiry (s : State) : Host.Outcome State Fault Refusal :=
  .next (unlessPon State.expireHold s)

/-- GRANT_PATIENCE_EXPIRY (R76). -/
def execGrantPatienceExpiry (s : State) : Host.Outcome State Fault Refusal :=
  .next (unlessPon State.expireGrantPatience s)

/-- LINGER_EXPIRY (R111). -/
def execLingerExpiry (s : State) : Host.Outcome State Fault Refusal :=
  .next (unlessPon State.expireLinger s)

/-- FRESHNESS_EXPIRY of a line (R56). -/
def execFreshnessExpiry (i : LineIdx) (s : State) : Host.Outcome State Fault Refusal :=
  .next (unlessPon (State.expireLine i) s)

end Sys2Proof.Machine
end

