-- ==== Sys2Proof/Machine/Dispatch.lean ====
section
/-! DEFINITION. The dispatch: one arm per command. -/

namespace Sys2Proof.Machine

/-- The effect of a command on everything but the queue. -/
def exec (i : Instr) (s : State) : Host.Outcome State Fault Refusal :=
  match i with
  | .hostApertureRead ha st => Sys2Proof.Machine.execHostApertureRead ha st s
  | .hostApertureWrite ha st hd => Sys2Proof.Machine.execHostApertureWrite ha st hd s
  | .streamDataWrite st hd => Sys2Proof.Machine.execStreamDataWrite st hd s
  | .streamDataRead st => Sys2Proof.Machine.execStreamDataRead st s
  | .moduleReset v => Sys2Proof.Machine.execModuleReset v s
  | .powerRequest low => Sys2Proof.Machine.execPowerRequest low s
  | .eventEnable enables => Sys2Proof.Machine.execEventEnable enables s
  | .stallLimit limit => Sys2Proof.Machine.execStallLimit limit s
  | .negotiatedSettingWrite setting value => Sys2Proof.Machine.execNegotiatedSettingWrite setting value s
  | .hostEvent data => Sys2Proof.Machine.execHostEvent data s
  | .streamStatus data => Sys2Proof.Machine.execStreamStatus data s
  | .endMessage => Sys2Proof.Machine.execEnd s
  | .nextMessage => Sys2Proof.Machine.execNext s
  | .notePop => Sys2Proof.Machine.execNotePop s
  | .faultPop w => Sys2Proof.Machine.execFaultPop w s
  | .clearLost => Sys2Proof.Machine.execClearLost s
  | .openEntry w => Sys2Proof.Machine.execOpen w s
  | .closeEntry w => Sys2Proof.Machine.execClose w s
  | .resumeEntry w => Sys2Proof.Machine.execResume w s
  | .retarget w => Sys2Proof.Machine.execRetarget w s
  | .setEditable w => Sys2Proof.Machine.execSetEditable w s
  | .moduleReady onAccess onAttention => Sys2Proof.Machine.execModuleReady onAccess onAttention s
  | .remain onAccess onAttention => Sys2Proof.Machine.execRemain onAccess onAttention s
  | .dormantConfirm onAccess onAttention => Sys2Proof.Machine.execDormantConfirm onAccess onAttention s
  | .wake onAccess onAttention => Sys2Proof.Machine.execWake onAccess onAttention s
  | .datapathReset => Sys2Proof.Machine.execDatapathReset s
  | .notice data => Sys2Proof.Machine.execNotice data s
  | .answerAccept setting serial reason => Sys2Proof.Machine.execAnswerAccept setting serial reason s
  | .answerReject setting serial reason => Sys2Proof.Machine.execAnswerReject setting serial reason s
  | .localEvent data => Sys2Proof.Machine.execLocalEvent data s
  | .localMask mask => Sys2Proof.Machine.execLocalMask mask s
  | .invalidateLines => Sys2Proof.Machine.execInvalidateLines s
  | .freshness value => Sys2Proof.Machine.execFreshness value s
  | .grantPatience value => Sys2Proof.Machine.execGrantPatience value s
  | .yieldHonor value => Sys2Proof.Machine.execYieldHonor value s
  | .ringSettingWrite reg data => Sys2Proof.Machine.execRingSettingWrite reg data s
  | .inConsume data => Sys2Proof.Machine.execInConsume data s
  | .outProduce data => Sys2Proof.Machine.execOutProduce data s
  | .indexRefusedClear => Sys2Proof.Machine.execIndexRefusedClear s
  | .inStart => Sys2Proof.Machine.execInStart s
  | .inStop => Sys2Proof.Machine.execInStop s
  | .inRestart => Sys2Proof.Machine.execInRestart s
  | .inPop => Sys2Proof.Machine.execInPop s
  | .outStart => Sys2Proof.Machine.execOutStart s
  | .outStop => Sys2Proof.Machine.execOutStop s
  | .outRestart => Sys2Proof.Machine.execOutRestart s
  | .outMark position => Sys2Proof.Machine.execOutMark position s
  | .notePost code => Sys2Proof.Machine.execNotePost code s
  | .noteFullClear => Sys2Proof.Machine.execNoteFullClear s
  | .registerWrite a => Sys2Proof.Machine.execRegisterWrite a s
  | .powerOnReset => Sys2Proof.Machine.execPowerOnReset s
  | .powerOnResetEnd => Sys2Proof.Machine.execPowerOnResetEnd s
  | .lbgntAsserted => Sys2Proof.Machine.execLbgntAsserted s
  | .lbgntWithdrawal => Sys2Proof.Machine.execLbgntWithdrawal s
  | .lyldAsserted => Sys2Proof.Machine.execLyldAsserted s
  | .lyldDeasserted => Sys2Proof.Machine.execLyldDeasserted s
  | .lack ld => Sys2Proof.Machine.execLack ld s
  | .lerr => Sys2Proof.Machine.execLerr s
  | .latnAssertion => Sys2Proof.Machine.execLatnAssertion s
  | .latnDeassertion => Sys2Proof.Machine.execLatnDeassertion s
  | .stallExpiry => Sys2Proof.Machine.execStallExpiry s
  | .ackLimitExpiry => Sys2Proof.Machine.execAckLimitExpiry s
  | .holdExpiry => Sys2Proof.Machine.execHoldExpiry s
  | .grantPatienceExpiry => Sys2Proof.Machine.execGrantPatienceExpiry s
  | .lingerExpiry => Sys2Proof.Machine.execLingerExpiry s
  | .freshnessExpiry line => Sys2Proof.Machine.execFreshnessExpiry line s
  | .answerExpiry setting => Sys2Proof.Machine.execAnswerExpiry setting s
  | .requestBegin => Sys2Proof.Machine.execRequestBegin s

end Sys2Proof.Machine
end

