-- ==== Sys2Proof/Machine/Tick.lean ====
section
/-! DEFINITION. The tick of the timebase that passes in a step on an empty queue (00_scope, section 7; log entries 1
and 2). -/

namespace Sys2Proof.Machine

/-- One microsecond tick: the count advances, and a request that waited for a tick since the release mark begins
(R69). Expiries stay commands of their own, so no timer is forced. -/
def State.tick (s : State) : State :=
  let s1 := { s with now := s.now + 1 }
  if s.pins.pon then s1 else s1.poll

end Sys2Proof.Machine
end

