-- ==== Sys2Proof/Machine/Windows.lean ====
section
/-! DEFINITION. What a read of either register window returns (R175 to R180, Tables 10-1 to 10-7). A read changes
nothing, so it is a function of the state and has no row; a read of Stream Data has (STREAM_DATA_READ). -/

namespace Sys2Proof.Machine

/-! ### Fields -/

/-- A value placed at a bit position of a 32-bit register. -/
def field (position : Nat) {n : Nat} (v : BitVec n) : Word := (v.setWidth 32) <<< position

/-- A flag placed at a bit position of a 32-bit register. -/
def flag (position : Nat) (b : Bool) : Word := field position (bit b)

/-- A count placed at a bit position of a 32-bit register. -/
def count (position : Nat) (n : Nat) : Word := BitVec.ofNat 32 n <<< position

/-- A command register as it reads: the result in bits 12:8 (R178). -/
def resultWord (r : Result) : Word := field 8 r.code

/-! ### Codes (Tables 10-4 to 10-6) -/

/-- The entry state codes (Table 10-5). -/
def EntryPhase.code : EntryPhase → BitVec 2
  | .opened => 1
  | .suspended => 2
  | .draining => 3

/-- The power state codes (Table 10-5). -/
def PowerState.code : PowerState → BitVec 3
  | .starting => 0
  | .active => 1
  | .quiescing => 2
  | .dormant => 3
  | .waking => 4

/-- The inbound channel state codes (Table 10-5). -/
def InState.code : InState → BitVec 2
  | .off => 0
  | .running => 1
  | .flushing => 2
  | .halted => 3

/-- The outbound channel state codes (Table 10-5). -/
def OutState.code : OutState → BitVec 2
  | .off => 0
  | .running => 1
  | .halted => 3

/-- The wake cause codes (section 10.5). -/
def WakeCause.code : WakeCause → BitVec 2
  | .hostRequest => 0
  | .hostAccess => 1
  | .attention => 2
  | .loc => 3

/-- The fault kind codes (Table 10-4). -/
def FaultKind.code : FaultKind → BitVec 3
  | .unmapped => 1
  | .denied => 2
  | .stall => 3
  | .localError => 4
  | .localTimeout => 5

/-- The fault origin codes (Table 10-4). -/
def FaultOrigin.code : FaultOrigin → BitVec 3
  | .hostAccess => 1
  | .hostRead => 2
  | .lineFill => 3
  | .postedWrite => 4
  | .strictWrite => 5
  | .streamIn => 6
  | .streamOut => 7

/-- The direction codes (Table 10-4). -/
def Direction.code : Direction → BitVec 1
  | .read => 0
  | .write => 1

/-- The outcome codes (Table 10-6). -/
def SettingOutcome.code : SettingOutcome → BitVec 3
  | .none => 0
  | .pending => 1
  | .accepted => 2
  | .rejected => 3
  | .expired => 4

/-! ### The fault head (Table 10-4) -/

/-- The INFO word of a record; the host shows its bits 11:0 and the sequence register bits 27:16. -/
def FaultRecord.info (r : FaultRecord) : Word :=
  field 0 r.kind.code ||| field 4 r.origin.code ||| field 7 r.direction.code ||| field 8 (BitVec.ofNat 3 (r.entry.getD 0).val) |||
  flag 11 (r.inFlight.getD false) ||| field 16 (r.seq.getD 0) ||| field 24 (r.dropped.getD 0)

/-- The presence bits of a record. -/
def FaultRecord.presence (r : FaultRecord) : BitVec 7 :=
  bit r.inFlight.isSome ++ bit r.dropped.isSome ++ bit r.seq.isSome ++ bit r.localAddr.isSome ++
  bit r.hostAddr.isSome ++ bit r.entry.isSome ++ 1#1

/-- The INFO word of the head, 0 while there is none (R180). -/
def State.faultInfo (s : State) : Word := s.faults.queue.head?.elim 0 FaultRecord.info

/-- The presence bits of the head, 0 while there is none. -/
def State.faultPresence (s : State) : BitVec 7 := s.faults.queue.head?.elim 0 FaultRecord.presence

/-- The host address of the head. -/
def State.faultHostAddr (s : State) : Word :=
  s.faults.queue.head?.elim 0 (fun r => (r.hostAddr.getD 0).setWidth 32)

/-- The local address of the head. -/
def State.faultLocalAddr (s : State) : Word := s.faults.queue.head?.elim 0 (fun r => r.localAddr.getD 0)

/-! ### Staging records and Views (Table 10-3, R4) -/

/-- The fields PAGE, size code and the six modes as the local register A packs them. -/
def packA (page : BitVec 12) (size : BitVec 4) (access : BitVec 2) (strict streaming combine swapped slide : Bool)
    (hold : BitVec 4) : Word :=
  field 0 page ||| field 12 size ||| field 16 access ||| flag 18 strict ||| flag 19 streaming ||| flag 20 combine |||
  flag 21 swapped ||| flag 22 slide ||| field 24 hold

/-- A staging record as the local register A shows it. -/
def Staging.wordA (g : Staging) : Word :=
  packA g.page g.size g.access g.strict g.streaming g.combine g.swapped g.slide g.hold |||
  field 28 (BitVec.ofNat 3 g.target.val) ||| flag 31 g.editable

/-- The entry a View selects. -/
def State.viewed (s : State) (w : Window) : Entry :=
  match w with
  | .host => s.table.entries[s.table.hostView]
  | .loc => s.table.entries[s.table.localView]

/-- The View as the local register A shows it; an EMPTY entry shows its host-editable field only (R4). -/
def Entry.viewA (e : Entry) : Word :=
  (e.live.elim 0 (fun l =>
    packA l.ap.page l.ap.size l.ap.access.code l.ap.strict l.ap.streaming l.ap.combine l.ap.swapped l.ap.slide
      l.ap.hold ||| field 28 l.phase.code)) ||| flag 31 e.editable

/-- The View's local base register. -/
def Entry.viewBase (e : Entry) : Word := e.live.elim 0 (fun l => l.ap.localBase)

/-- The View's COUNTS register. -/
def Entry.viewCounts (e : Entry) : Word := e.live.elim 0 (fun l => field 0 l.slideCount ||| field 16 l.refused)

/-- The host's PAGE register out of a packed A word: bits 15:0. -/
def pageOfA (a : Word) : Half := a.extractLsb' 0 16

/-- The host's MODE register out of a packed A word: bits 31:16 (Table 10-3). -/
def modeOfA (a : Word) : Half := a.extractLsb' 16 16

/-- The host's LBASE_LO register: local address bits 27:12. -/
def baseLow (b : Word) : Half := b.extractLsb' 12 16

/-- The host's LBASE_HI register: local address bits 31:28. -/
def baseHigh (b : Word) : Half := (b.extractLsb' 28 4).setWidth 16

/-! ### Settings, streams and events -/

/-- A negotiated setting's status (Table 10-6). -/
def Negotiated.status (n : Negotiated) : Word := field 0 n.serial ||| field 8 n.outcome.code ||| field 12 n.reason

/-- The proposal head (Table 10-6). -/
def State.proposalHead (s : State) : Word :=
  s.settings.proposals.head?.elim 0 (fun p =>
    field 0 (match p.setting with
      | .attentionRoute => 4#3
      | .streamEnable => 5#3
      | .tableRights => 6#3
      | .linePermit => 7#3) |||
    field 8 p.serial ||| field 16 p.value ||| count 24 s.settings.proposals.length ||| flag 31 true)

/-- The host stream status (Table 10-7). -/
def State.hostStreamStatus (s : State) : Word :=
  field 0 s.inb.state.code ||| field 2 s.outb.state.code ||| flag 4 s.outb.atEnd ||| flag 5 s.inb.damaged |||
  flag 8 s.stream.refused ||| flag 9 s.stream.dropped ||| flag 10 s.stream.emptyRead

/-- The local event register with the LATN level and the wake cause beside it (section 10.5, R167). -/
def State.localEventRegister (s : State) : Word :=
  field 0 s.localEventWord ||| flag 16 s.pins.latn ||| field 20 (s.power.cause.elim 0 WakeCause.code) |||
  flag 22 s.power.cause.isSome

/-- The boundary head (Table 10-2). -/
def State.boundaryHead (s : State) : Word :=
  s.inb.boundaries.head?.elim 0 (fun b =>
    count 0 b.endPos ||| flag 20 b.damaged ||| flag 21 b.visible ||| flag 31 true)

/-! ### The host window (Table 10-1) -/

/-- A host register read whole; an offset that holds no register reads 0 (R175). -/
def State.hostWord (s : State) (reg : BitVec 6) : Half :=
  match 2 * reg.toNat with
  | 0x00 => Config.partCode
  | 0x02 => Config.revision.setWidth 16
  | 0x04 => (field 0 s.power.state.code ||| flag 8 s.power.resetBusy).setWidth 16
  | 0x08 => (flag 0 s.settings.moduleReset).setWidth 16
  | 0x0A => (flag 0 s.settings.powerLow).setWidth 16
  | 0x0C => s.settings.eventEnable.setWidth 16
  | 0x0E => s.settings.stallLimit.setWidth 16
  | 0x10 => s.settings.s4.accepted.setWidth 16
  | 0x12 => s.settings.s5.accepted.setWidth 16
  | 0x14 => s.settings.s6.accepted.setWidth 16
  | 0x16 => s.settings.s7.accepted.setWidth 16
  | 0x18 => s.settings.s4.status.setWidth 16
  | 0x1A => s.settings.s5.status.setWidth 16
  | 0x1C => s.settings.s6.status.setWidth 16
  | 0x1E => s.settings.s7.status.setWidth 16
  | 0x20 => s.hostEventWord.setWidth 16
  | 0x22 => s.hintSummary.setWidth 16
  | 0x24 => (resultWord s.faults.hostResult).setWidth 16
  | 0x26 => (s.faultInfo.extractLsb' 0 12).setWidth 16
  | 0x28 => s.faultPresence.setWidth 16
  | 0x2A => (s.faultInfo.extractLsb' 16 12).setWidth 16
  | 0x2C => (count 0 s.faults.queue.length ||| field 8 s.faults.lost).setWidth 16
  | 0x2E => s.faultHostAddr.extractLsb' 0 16
  | 0x30 => s.faultHostAddr.extractLsb' 16 16
  | 0x32 => s.faultLocalAddr.extractLsb' 0 16
  | 0x34 => s.faultLocalAddr.extractLsb' 16 16
  | 0x36 => s.events.notes.headD 0
  | 0x38 => (flag 0 s.condNote ||| count 8 s.events.notes.length).setWidth 16
  | 0x3A => (resultWord s.events.noteResult).setWidth 16
  | 0x40 => pageOfA s.table.hostStage.wordA
  | 0x42 => baseLow (field 12 s.table.hostStage.base)
  | 0x44 => baseHigh (field 12 s.table.hostStage.base)
  | 0x46 => modeOfA s.table.hostStage.wordA &&& 0x7FFF#16
  | 0x48 => (resultWord s.table.hostResult).setWidth 16
  | 0x4A => (count 0 s.table.hostView.val).setWidth 16
  | 0x4C => pageOfA (s.viewed .host).viewA
  | 0x4E => baseLow (s.viewed .host).viewBase
  | 0x50 => baseHigh (s.viewed .host).viewBase
  | 0x52 => modeOfA (s.viewed .host).viewA
  | 0x54 => (s.viewed .host).viewCounts.extractLsb' 0 16
  | 0x56 => (s.viewed .host).viewCounts.extractLsb' 16 16
  | 0x62 => s.hostStreamStatus.setWidth 16
  | 0x64 => (count 0 s.inb.freeRoom ||| count 8 s.outb.fifo.length).setWidth 16
  | 0x66 => (count 0 s.inb.msgLen).setWidth 16
  | 0x68 => s.stream.inThreshold.setWidth 16
  | 0x6A => s.stream.outThreshold.setWidth 16
  | 0x6C => (resultWord s.stream.hostResult).setWidth 16
  | _ => 0#16

/-- A read of a host register other than Stream Data: by halfword, by byte, or with no strobe; filler while PON is
asserted (R170, R175). -/
def hostRegisterRead (s : State) (reg : BitVec 6) (st : Strobes) : Half :=
  if s.pins.pon then Config.filler
  else if bothStrobes st then s.hostWord reg
  else if st.hlb then s.hostWord reg &&& 0x00FF#16
  else if st.hub then s.hostWord reg &&& 0xFF00#16
  else 0xFFFF#16

/-! ### The local window (Table 10-2) -/

/-- A local register read whole while the window is open; an offset that holds no register reads 0 (R176). -/
def State.localWord (s : State) (reg : BitVec 6) : Word :=
  match 4 * reg.toNat with
  | 0x00 => field 0 Config.partCode ||| field 16 Config.revision
  | 0x04 => field 0 s.power.state.code
  | 0x08 => resultWord s.power.result ||| flag 16 s.power.wakeOnAccess ||| flag 17 s.power.wakeOnAttention
  | 0x0C => resultWord s.power.resetResult ||| flag 16 s.power.resetBusy
  | 0x10 =>
    flag 0 s.settings.notices.s0 ||| flag 1 s.settings.notices.s1 ||| flag 2 s.settings.notices.s2 |||
    flag 3 s.settings.notices.s3
  | 0x14 =>
    flag 0 s.settings.moduleReset ||| flag 1 s.settings.powerLow ||| field 4 s.settings.eventEnable |||
    field 16 s.settings.stallLimit
  | 0x18 =>
    field 0 (s.settings.s4.accepted.setWidth 2) ||| field 4 (s.settings.s5.accepted.setWidth 1) |||
    field 5 (s.settings.s6.accepted.setWidth 1) ||| field 6 (s.settings.s7.accepted.setWidth 1)
  | 0x1C => s.proposalHead
  | 0x20 => resultWord s.settings.answerResult
  | 0x24 => field 0 s.settings.answerLimit
  | 0x28 => s.localEventRegister
  | 0x2C => field 0 s.events.mask
  | 0x30 => field 0 s.lintSummary
  | 0x34 => resultWord s.faults.localResult
  | 0x38 => s.faultInfo
  | 0x3C => field 0 s.faultPresence ||| count 8 s.faults.queue.length ||| field 16 s.faults.lost
  | 0x40 => s.faultHostAddr
  | 0x44 => s.faultLocalAddr
  | 0x48 => s.table.localStage.wordA
  | 0x4C => field 12 s.table.localStage.base
  | 0x50 => resultWord s.table.localResult
  | 0x54 => count 0 s.table.localView.val
  | 0x58 => (s.viewed .loc).viewA
  | 0x5C => (s.viewed .loc).viewBase
  | 0x60 => (s.viewed .loc).viewCounts
  | 0x64 => resultWord s.lineset.result
  | 0x68 => field 0 s.lineset.freshness
  | 0x6C => field 0 s.master.ackLimit
  | 0x70 => field 0 s.master.grantPatience
  | 0x74 => flag 0 s.master.yieldHonor
  | 0x78 => field 8 s.inb.base
  | 0x7C => field 0 s.inb.size ||| flag 8 s.inb.drop ||| field 16 s.inb.hold
  | 0x80 => field 8 s.outb.base
  | 0x84 => field 0 s.outb.size ||| field 16 s.outb.hold
  | 0x88 => count 0 s.inb.produce
  | 0x8C => count 0 s.inb.consume
  | 0x90 => count 0 s.outb.produce
  | 0x94 => count 0 s.outb.fetch
  | 0x98 => count 0 s.outb.consume
  | 0x9C => resultWord s.stream.localResult
  | 0xA0 =>
    field 0 s.inb.state.code ||| field 4 s.outb.state.code ||| flag 8 s.stream.indexRefused |||
    count 16 s.inb.boundaries.length ||| count 24 s.outb.marks.length
  | 0xA4 => s.boundaryHead
  | 0xA8 => s.inb.boundaries.head?.elim 0 (fun b => count 0 b.length)
  | 0xAC => s.outb.marks.head?.elim 0 (fun m => count 0 m ||| flag 31 true)
  | 0xB4 => count 0 s.events.notes.length ||| flag 8 s.events.noteFull
  | _ => 0#32

/-- A read of a local register: 0 while MODULE_RESET is 1 or PON is asserted (R170, R176). -/
def localRegisterRead (s : State) (reg : BitVec 6) : Word := if s.localOpen then s.localWord reg else 0#32

end Sys2Proof.Machine
end

