-- ==== Sys2Proof/Safety.lean ====
section
/-! DEFINITION. What counts as a state the device allows: its laws, each in the words of the rule that states it,
over the fields of State alone. The statements of Certificates/Slice0 say that every step keeps them. -/

namespace Sys2Proof.Machine

/-! ### When an access is taken -/

/-- The host can issue a register or aperture access and it is taken: PON is deasserted and no host transaction is
held in wait (R84, R170). -/
def State.hostCanAct (s : State) : Prop := s.pins.pon = false ∧ s.hostHeld = false

/-- A local window write is taken: PON is deasserted and MODULE_RESET is 0 (R170, R176). -/
def State.localCanAct (s : State) : Prop := s.pins.pon = false ∧ s.settings.moduleReset = false

/-- A table or fault command of a window is taken (R5, R93). -/
def State.canCommand (s : State) : Window → Prop
  | .host => s.hostCanAct
  | .loc => s.localCanAct

/-- A window may edit its staged target entry: the host needs TABLE_RIGHTS and the entry's host-editable field (R5). -/
def State.mayEdit (s : State) : Window → Prop
  | .host => s.settings.s6.accepted = 1#4 ∧ (s.table.entries[s.table.hostStage.target]).editable = true
  | .loc => True

/-- The state after a window's table command with its result: the host's write is answered too (R5, R178). -/
def State.tableDone (w : Window) (r : Result) (s : State) : State :=
  match w with
  | .host => { s with hostReply := .written, table := { s.table with hostResult := r } }
  | .loc => { s with table := { s.table with localResult := r } }

/-! ### Local addresses and lanes, in the numbers of R20 and R21 -/

/-- The host address and the local word of an access: the byte address of the lowest enabled byte (R15), and the local
base plus its offset into the aperture, modulo 2^32, rounded down to a multiple of 4 (R20). -/
def Aperture.formsWord (ap : Aperture) (ha : BitVec 23) (st : Strobes) (addr : HostAddr) (word : Word) : Prop :=
  let byte := 2 * ha.toNat + (if st.hlb then 0 else 1)
  addr.toNat = byte ∧
  word.toNat = (4096 * ap.base.toNat + (byte - 4096 * ap.page.toNat)) % 2 ^ 32 / 4 * 4

/-- R21's table: the local lanes that meet HD[7:0] and HD[15:8], where e is the host halfword address modulo 4. -/
def laneTable (ha : BitVec 23) (swapped : Bool) : Nat × Nat :=
  let e := 2 * ha.toNat % 4
  if swapped then (e + 1, e) else (e, e + 1)

/-- A lane set is that of an access: the lane of each strobe asserted, and no other (R21). -/
def lanesOf (ha : BitVec 23) (st : Strobes) (swapped : Bool) (mask : BitVec 4) : Prop :=
  ∀ k, mask.getLsbD k = true ↔
    (st.hlb = true ∧ k = (laneTable ha swapped).1) ∨ (st.hub = true ∧ k = (laneTable ha swapped).2)

/-- A write's lane set and data: each byte whose strobe is asserted stands on its lane (R21), and a lane outside the set
carries 0 (log entry 14). -/
def placesBytes (ha : BitVec 23) (st : Strobes) (hd : Half) (swapped : Bool) (mask : BitVec 4) (data : Word) : Prop :=
  lanesOf ha st swapped mask ∧
  ∀ k < 4, data.extractLsb' (8 * k) 8 =
    if st.hlb = true ∧ k = (laneTable ha swapped).1 then hd.extractLsb' 0 8
    else if st.hub = true ∧ k = (laneTable ha swapped).2 then hd.extractLsb' 8 8
    else 0#8

/-- A read's lanes: its byte enables, and each half of HD answered from its lane, or with 0xFF without its strobe (R21,
R48, R49). -/
def returnsBytes (ha : BitVec 23) (st : Strobes) (swapped : Bool) (lanes : ReadLanes) : Prop :=
  lanesOf ha st swapped lanes.mask ∧
  ∀ w : Word,
    (lanes.answer w).extractLsb' 0 8 =
      (if st.hlb then w.extractLsb' (8 * (laneTable ha swapped).1) 8 else 0xFF#8) ∧
    (lanes.answer w).extractLsb' 8 8 =
      (if st.hub then w.extractLsb' (8 * (laneTable ha swapped).2) 8 else 0xFF#8)

/-! ### Bounds (R26, R78, R91, R109, R115, R116, R152) -/

/-- No queue, list or count is over its bound. -/
def State.capacityLaw (s : State) : Prop :=
  s.pwq.records.length ≤ 16 ∧ s.faults.queue.length ≤ 4 ∧ s.events.notes.length ≤ 4 ∧
  s.inb.boundaries.length ≤ 8 ∧ s.outb.marks.length ≤ 8 ∧ s.inb.fifo.length ≤ 32 ∧ s.master.run ≤ 8

/-- Settings hold values of their ranges (R66, R122), and the power state agrees with S0 and S1 (R163, R171). -/
def State.registerLaw (s : State) : Prop :=
  s.master.ackLimit ≠ 0#8 ∧
  2 ≤ s.stream.inThreshold.toNat ∧ s.stream.inThreshold.toNat ≤ 32 ∧
  1 ≤ s.stream.outThreshold.toNat ∧ s.stream.outThreshold.toNat ≤ 32 ∧
  (s.settings.moduleReset = true → s.power.state = .starting) ∧
  (s.power.state = .quiescing ∨ s.power.state = .dormant → s.settings.powerLow = true)

/-! ### The Aperture Table and the Posted Write Queue (R6, R12, R26, R98) -/

/-- A host page of an aperture's host range (R1). -/
def Aperture.holdsPage (ap : Aperture) (p : Nat) : Prop :=
  ap.page.toNat ≤ p ∧ p < ap.page.toNat + pageCount ap.size

/-- No two entries that are not EMPTY cover a common host page, and every range is legal and aligned (R6). -/
def State.apertureLaw (s : State) : Prop :=
  (∀ e, ∀ l ∈ s.live e, l.ap.size.toNat ≤ 8 ∧ l.ap.page.toNat % pageCount l.ap.size = 0) ∧
  (∀ e f, e ≠ f → ∀ l ∈ s.live e, ∀ m ∈ s.live f, ∀ p, ¬ (l.ap.holdsPage p ∧ m.ap.holdsPage p))

/-- Every record belongs to an entry that is OPEN or DRAINING (R26), so a SUSPENDED entry has none (R98), and an entry
is DRAINING only while the queue holds a record of it (R12). -/
def State.queueLaw (s : State) : Prop :=
  (∀ r ∈ s.pwq.records, ∃ l ∈ s.live r.entry, l.phase = .opened ∨ l.phase = .draining) ∧
  (∀ e, ∀ l ∈ s.live e, l.phase = .draining → ∃ r ∈ s.pwq.records, r.entry = e)

/-! ### Reads behind writes (R45, R53) -/

/-- A read past ORDER_WAIT finds no PWQ record and no orphan (R45); the host waits on one transaction only. -/
def State.orderLaw (s : State) : Prop :=
  ∀ r ∈ s.slot.record,
    s.pwq.held = .none ∧
    (r.phase = .busWait ∨ r.phase = .inFlight → s.pwq.records = [] ∧ s.slot.orphan = none)

/-- The address a line holds as good: it is VALID, or FILLING and not spoiled (R53). -/
def Line.holds : Line → Option Word
  | .invalid => none
  | .filling true _ _ => none
  | .filling false _ a => some a
  | .valid _ a _ _ => some a

/-- No line that is VALID or FILLING and not spoiled holds a word that a PWQ record targets (R53). -/
def State.lineLaw (s : State) : Prop :=
  ∀ i, ∀ a ∈ (s.lineset.line i).holds, ∀ r ∈ s.pwq.records, lineAddr r.word ≠ a

/-! ### The local bus (R63, R68, R69, R70, R72) -/

/-- A transfer is in flight exactly in the two states that say so; the bus is owned only under LBGNT or, to the end
of a transfer, after its withdrawal; an honoured LYLD leaves neither a hold nor a plain ownership (R68, R73, R74). -/
def State.busLaw (s : State) : Prop :=
  (s.pins.pon = true → s.master.own = .released ∧ s.master.transfer = none) ∧
  (s.master.transfer.isSome = true ↔ s.master.own = .transferring ∨ ∃ w, s.master.own = .yielding w) ∧
  (s.master.own = .transferring → s.pins.lbgnt = true ∧ s.yieldAsked = false) ∧
  (∀ t, s.master.own = .holding t → s.pins.lbgnt = true ∧ s.yieldAsked = false) ∧
  (s.master.own = .yielding .withdrawn → s.pins.lbgnt = false ∧ s.yieldAsked = false)

/-- Nothing the bus should have begun or ended is left standing: in RELEASED no request can begin (R69), in REQUESTING
a client is eligible and LBGNT is not there to take (R69, R70), in OWNED_HOLDING no client is eligible (R72). -/
def State.settledLaw (s : State) : Prop :=
  (s.pins.pon = true → s.master.own = .released ∧ s.anyEligible = false) ∧
  (s.master.own = .released → ¬ (s.anyEligible = true ∧ s.yieldAsked = false ∧ s.markPassed = true)) ∧
  (∀ n p, s.master.own = .requesting n p → s.anyEligible = true ∧ s.pins.lbgnt = false) ∧
  (∀ t, s.master.own = .holding t → s.anyEligible = false)

/-- A transfer record and its client agree (R25, R35, R45, R63): at most the head of the queue is in flight, and it or
the slot's record or the orphan is exactly when the master carries it; a datapath reset in progress waits for a
discarded transfer (R172). -/
def State.transferLaw (s : State) : Prop :=
  (s.power.resetBusy = true → ∃ x ∈ s.master.transfer, x.discard = true) ∧
  (∀ x ∈ s.master.transfer, x.beatsDone < x.beats.length ∧ x.beats.length ≤ 8) ∧
  (∀ r ∈ s.pwq.records.tail, r.inFlight = false) ∧
  (∀ r ∈ s.pwq.records.head?, r.inFlight = true →
    ∃ x ∈ s.master.transfer, x.client = .pwq ∧ (x.discard = true → s.power.resetBusy = true)) ∧
  (∀ x ∈ s.master.transfer, x.client = .pwq → x.discard = false →
    ∃ r ∈ s.pwq.records.head?, r.inFlight = true) ∧
  ((∃ r ∈ s.slot.record, r.phase = .inFlight) ∨ s.slot.orphan.isSome = true →
    ∃ x ∈ s.master.transfer, x.client = .readSlot ∧ (x.discard = true → s.power.resetBusy = true)) ∧
  (∀ x ∈ s.master.transfer, x.client = .readSlot → x.discard = false →
    ((∃ r ∈ s.slot.record, r.phase = .inFlight) ∨ s.slot.orphan.isSome = true)) ∧
  (s.slot.orphan.isSome = true → ¬ ∃ r ∈ s.slot.record, r.phase = .inFlight)

/-! ### The host in wait (R84, R85, R110, R120) -/

/-- At most one block holds the host; HWAIT, the reply and the Stall Monitor agree with it, the power state is ACTIVE,
and a channel that holds the host is RUNNING, unless a datapath reset is in progress, during which STREAM_ENABLE may stop
the channel while the host stays held (R124, R172; log entry 21). -/
def State.hostLaw (s : State) : Prop :=
  (s.pwq.held ≠ .none → s.slot.record = none ∧ s.inb.held = none ∧ s.outb.held = none) ∧
  (s.slot.record.isSome = true → s.inb.held = none ∧ s.outb.held = none) ∧
  (s.inb.held.isSome = true → s.outb.held = none) ∧
  (s.hostHeld = true ↔ s.hostReply = .held) ∧
  (s.hostHeld = true → s.power.state = .active ∧ s.pins.pon = false) ∧
  (s.inb.held.isSome = true → s.inb.state = .running ∨ s.power.resetBusy = true) ∧
  (s.outb.held.isSome = true → s.outb.state = .running ∨ s.power.resetBusy = true) ∧
  (∀ t ∈ s.stall,
    match t.holder with
    | .pwq => s.pwq.held ≠ .none
    | .readSlot => s.slot.record.isSome = true
    | .inbound => s.inb.held.isSome = true
    | .outbound => s.outb.held.isSome = true)

/-! ### The stream rings (R104, R111, R117) -/

/-- The inbound ring's occupancy never exceeds its size, and the run of a move in flight still lies in the FIFO and
fits the ring (R104, R112). -/
def State.inboundLaw (s : State) : Prop :=
  let c := s.inb
  let size := ringSize c.size
  c.produce < 2 * size ∧ c.consume < 2 * size ∧ c.occupancy ≤ size ∧
  (∀ x ∈ s.master.transfer, x.client = .inbound → x.discard = false →
    (c.state = .running ∨ c.state = .flushing) ∧ 1 ≤ x.runLen ∧ x.runLen ≤ c.fifo.length ∧ x.runLen ≤ c.ringFree)

/-- The outbound ring's occupancy never exceeds its size, the fetch position lies between consume and the limit, the
FIFO holds exactly the bytes between consume and fetch, at most 32, and the marks lie in order within the produced data;
the run of a fetch in flight that is not void still fits (R104, R116, R117, R118). -/
def State.outboundLaw (s : State) : Prop :=
  let c := s.outb
  let size := ringSize c.size
  let ahead (i : Nat) : Nat := ringDist size c.consume i
  c.produce < 2 * size ∧ c.fetch < 2 * size ∧ c.consume < 2 * size ∧
  ahead c.produce ≤ size ∧ ahead c.fetch ≤ ahead c.limit ∧
  c.fifo.length = ahead c.fetch ∧ c.fifo.length ≤ 32 ∧
  (∀ m ∈ c.marks, m < 2 * size ∧ ahead m ≤ ahead c.produce) ∧
  c.marks.Pairwise (fun a b => ahead a < ahead b) ∧
  (∀ x ∈ s.master.transfer, x.client = .outbound → x.discard = false → c.fetchVoid = false →
    c.state = .running ∧ x.kind = .streamFetch ∧ 1 ≤ x.runLen ∧ x.runSkip < 4 ∧
    x.beats.length = runWords x.runSkip x.runLen ∧ x.readData.length = x.beatsDone ∧ x.beatsDone < x.beats.length ∧
    c.fifo.length + x.runLen ≤ 32 ∧ ahead c.fetch + x.runLen ≤ ahead c.limit)

/-! ### Settings and power (R131, R134, R166) -/

/-- The Proposal List holds at most one proposal per setting, and a setting's outcome is PENDING exactly while it holds
one, with the setting's present serial (R131, R134); values in force and proposed are in range (R127). -/
def State.proposalLaw (s : State) : Prop :=
  s.settings.proposals.Pairwise (fun p q => p.setting ≠ q.setting) ∧
  (∀ p ∈ s.settings.proposals, (s.settings.neg p.setting).outcome = .pending ∧
    (s.settings.neg p.setting).serial = p.serial ∧ inRange p.setting p.value = true) ∧
  (∀ n, (s.settings.neg n).outcome = .pending → ∃ p ∈ s.settings.proposals, p.setting = n) ∧
  (∀ n, inRange n (s.settings.neg n).accepted = true)

/-- While the power state is DORMANT the PWQ is empty, the Read Slot is IDLE, the inbound FIFO is empty and no transfer
is in flight (R166). -/
def State.dormantLaw (s : State) : Prop :=
  s.power.state = .dormant →
    s.pwq.records = [] ∧ s.slot.record = none ∧ s.slot.orphan = none ∧ s.inb.fifo = [] ∧ s.master.transfer = none

end Sys2Proof.Machine
end

