-- ==== Sys2Proof/Certificates/Slice0/Obligations.lean ====
section
/-! DEFINITION. The statements for the provers, from the numbered rules of spec/ (OBLIGATIONS.json lists them). Two
fields in them are the model's: `hostReply`, its record of how the host transaction stands or ended (log entry 6), and
`now`, its count of ticks, which an expiry carries to at least its moment (log entry 2); so are the operands of the
commands (log entry 7). -/

open Sys2Proof Sys2Proof.Machine

/-! ### The step and the resets -/

/-- A step takes the command at the front of the queue and carries it out on the state with the queue's rest. -/
def Obligations.StepRunsTheFrontCommand : Prop :=
  ∀ (c : Instr) (rest : List Instr) (s : State),
    step { s with pending := c :: rest } = exec c { s with pending := rest }

/-- The model's choice (log entries 1 and 2): a step on an empty queue is one tick, which changes nothing else but
that a request which waited for a tick since the release mark begins (R69). -/
def Obligations.EmptyQueueStepIsOneTick : Prop :=
  ∀ s : State, s.pending = [] →
    (s.pins.pon = true → step s = .next { s with now := s.now + 1 }) ∧
    (s.pins.pon = false → s.settledLaw →
      s.master.own ≠ .released ∨ s.anyEligible = false ∨ s.yieldAsked = true →
      step s = .next { s with now := s.now + 1 }) ∧
    (s.pins.pon = false → s.master.own = .released → s.anyEligible = true → s.yieldAsked = false →
      s.pins.lbgnt = false → (∀ m ∈ s.master.releaseMark, m ≤ s.now) →
      step s = .next { s with
        now := s.now + 1
        master := { s.master with
          own := .requesting (s.now + 1) (if s.master.grantPatience = 0#8 then .stopped else .running) } })

/-- The values of the power-on column of R24, R43, R62, R83, R102, R125, R143, R159 and R174. -/
def Obligations.ResetHoldsThePowerOnValues : Prop :=
  let s := State.reset
  let zero : Staging :=
    { target := 0, page := 0, size := 0, base := 0, access := 0, strict := false, streaming := false,
      combine := false, swapped := false, slide := false, hold := 0, editable := false }
  (∀ e : EntryIdx, s.table.entries[e] = { editable := false, live := none }) ∧
  s.table.hostStage = zero ∧ s.table.localStage = zero ∧
  s.table.hostView = 0 ∧ s.table.localView = 0 ∧ s.table.hostResult = .ok ∧ s.table.localResult = .ok ∧
  s.pwq.records = [] ∧ s.pwq.seq = 0 ∧ s.pwq.held = .none ∧
  s.slot.record = none ∧ s.slot.orphan = none ∧ s.lineset.line0 = .invalid ∧ s.lineset.line1 = .invalid ∧
  s.lineset.freshness = 0 ∧ s.lineset.result = .ok ∧
  s.master.own = .released ∧ s.master.transfer = none ∧ s.markPassed = true ∧ s.master.run = 0 ∧
  s.master.lastStream = .outbound ∧ s.master.ackLimit = 32 ∧ s.master.grantPatience = 0 ∧
  s.master.yieldHonor = true ∧ s.lbreq = false ∧ s.lurg = false ∧
  s.stall = none ∧ s.faults.queue = [] ∧ s.faults.lost = 0 ∧ s.faults.hostResult = .ok ∧ s.faults.localResult = .ok ∧
  s.inb.state = .off ∧ s.outb.state = .off ∧ s.inb.fifo = [] ∧ s.outb.fifo = [] ∧ s.inb.boundaries = [] ∧
  s.outb.marks = [] ∧ s.inb.msgLen = 0 ∧ s.inb.damaged = false ∧ s.inb.held = none ∧ s.outb.held = none ∧
  s.inb.produce = 0 ∧ s.inb.consume = 0 ∧ s.outb.produce = 0 ∧ s.outb.fetch = 0 ∧ s.outb.consume = 0 ∧
  s.inb.base = 0 ∧ s.inb.size = 0 ∧ s.inb.drop = false ∧ s.inb.hold = 0 ∧ s.outb.base = 0 ∧ s.outb.size = 0 ∧
  s.outb.hold = 0 ∧ s.stream.inThreshold = 16 ∧ s.stream.outThreshold = 1 ∧ s.stream.refused = false ∧
  s.stream.dropped = false ∧ s.stream.emptyRead = false ∧ s.stream.indexRefused = false ∧
  s.stream.hostResult = .ok ∧ s.stream.localResult = .ok ∧
  s.settings.moduleReset = false ∧ s.settings.powerLow = false ∧ s.settings.eventEnable = 0 ∧
  s.settings.stallLimit = 500 ∧ (∀ n, s.settings.neg n = { accepted := 0, serial := 0, outcome := .none, reason := 0 }) ∧
  s.settings.proposals = [] ∧ s.settings.answerLimit = 50 ∧ s.condNotice = false ∧ s.settings.answerResult = .ok ∧
  s.hostEventWord = 0 ∧ s.localEventWord = 0 ∧ s.events.mask = 0 ∧ s.events.notes = [] ∧ s.events.noteFull = false ∧
  s.events.noteResult = .ok ∧ s.hint = false ∧ s.lint = false ∧
  s.power.state = .starting ∧ s.power.wakeOnAccess = false ∧ s.power.wakeOnAttention = false ∧
  s.power.cause = none ∧ s.power.result = .ok ∧ s.power.resetBusy = false ∧ s.power.resetResult = .ok ∧
  s.hready = false ∧ s.lpwr = false ∧ s.lrst = false ∧ s.pending = []

/-- Every law of Safety.lean holds of the machine after reset. -/
def Obligations.ResetObeysEveryLaw : Prop :=
  let s := State.reset
  s.capacityLaw ∧ s.registerLaw ∧ s.apertureLaw ∧ s.queueLaw ∧ s.orderLaw ∧ s.lineLaw ∧ s.busLaw ∧ s.settledLaw ∧
  s.transferLaw ∧ s.hostLaw ∧ s.inboundLaw ∧ s.outboundLaw ∧ s.proposalLaw ∧ s.dormantLaw

/-- PON asserted gives every piece of state its power-on value and drives the outputs as R170 lists; PON deasserted
changes nothing else. The levels of the other lines, the count of ticks and the queue are the outside's (log entry
5). -/
def Obligations.PowerOnResetTakesPowerOnValues : Prop :=
  (∀ s : State, ∃ t, exec .powerOnReset s = .next t ∧
    t.pins = { s.pins with pon := true } ∧ t.now = s.now ∧ t.pending = s.pending ∧
    { t with pins := State.reset.pins, now := 0, pending := [] } = State.reset ∧
    t.lrst = false ∧ t.hwait = false ∧ t.hint = false ∧ t.lint = false ∧ t.lbreq = false ∧ t.lurg = false ∧
    t.lpwr = false ∧ t.hready = false) ∧
  (∀ s : State, exec .powerOnResetEnd s = .next { s with pins := { s.pins with pon := false } })

/-- While PON is asserted no access and no line change is taken and no timer runs: every other command leaves all but
the levels of the lines and the host's answer, which is filler for a read and completion for a write; window reads
return filler and 0, HREADY signals busy, the other output lines are deasserted and no beat is presented (R170). -/
def Obligations.NothingIsTakenDuringPowerOnReset : Prop :=
  ∀ s : State, s.pins.pon = true →
    (∀ i, i ≠ .powerOnReset → i ≠ .powerOnResetEnd → ∃ t, exec i s = .next t ∧ t.pins.pon = true ∧
      { t with pins := s.pins, hostReply := s.hostReply } = s) ∧
    (∀ ha st, exec (.hostApertureRead ha st) s = .next { s with hostReply := .read 0xFFFF#16 }) ∧
    (∀ ha st hd, exec (.hostApertureWrite ha st hd) s = .next { s with hostReply := .written }) ∧
    (∀ st, exec (.streamDataRead st) s = .next { s with hostReply := .read 0xFFFF#16 }) ∧
    (∀ ld, exec (.lack ld) s = .next s) ∧ exec .lerr s = .next s ∧ exec .stallExpiry s = .next s ∧
    (∀ v, exec (.localMask v) s = .next s) ∧
    (∀ reg st, hostRegisterRead s reg st = 0xFFFF#16) ∧ (∀ reg, localRegisterRead s reg = 0#32) ∧
    s.lrst = false ∧ s.hwait = false ∧ s.hint = false ∧ s.lint = false ∧ s.lbreq = false ∧ s.lurg = false ∧
    s.lpwr = false ∧ s.hready = false ∧ s.beatShown = none

/-- A host write of S0 (R171, R129): 1 over 1 begins nothing, 0 is stored and sets S0_NOTICE, and 1 over 0 gives every
block its module reset values, keeps what belongs to the host, marks a transfer in flight discarded and the last of
its ownership, and latches host POWER. -/
def Obligations.ModuleResetWriteByOldValue : Prop :=
  ∀ s : State, s.hostCanAct →
    exec (.moduleReset false) s = .next { s with
      hostReply := .written
      settings := { s.settings with
        moduleReset := false, notices := { s.settings.notices with s0 := true } } } ∧
    (s.settings.moduleReset = true → exec (.moduleReset true) s = .next { s with hostReply := .written }) ∧
    (s.settings.moduleReset = false → ∃ t, exec (.moduleReset true) s = .next t ∧
      (∀ e : EntryIdx, t.table.entries[e] = { editable := false, live := none }) ∧
      t.table.localStage = State.reset.table.localStage ∧ t.table.localView = 0 ∧ t.table.localResult = .ok ∧
      t.table.hostStage = s.table.hostStage ∧ t.table.hostView = s.table.hostView ∧
      t.table.hostResult = s.table.hostResult ∧
      t.pwq = { records := [], seq := 0, held := .none } ∧ t.slot = { record := none, orphan := none } ∧
      t.lineset = State.reset.lineset ∧ t.stall = none ∧
      t.master.run = 0 ∧ t.master.lastStream = .outbound ∧ t.master.ackLimit = 32 ∧ t.master.grantPatience = 0 ∧
      t.master.yieldHonor = true ∧
      (∀ x, s.master.transfer = some x →
        t.master.transfer = some { x with discard := true } ∧ t.master.own = .yielding .yielded) ∧
      (s.master.transfer = none → t.master.transfer = none ∧ t.master.own = .released ∧
        t.master.releaseMark = if s.master.own = .released then s.master.releaseMark else some s.now) ∧
      t.faults = { State.reset.faults with hostResult := s.faults.hostResult } ∧
      t.inb = State.reset.inb ∧ t.outb = State.reset.outb ∧
      t.stream = { State.reset.stream with
        inThreshold := s.stream.inThreshold, outThreshold := s.stream.outThreshold,
        hostResult := s.stream.hostResult } ∧
      t.settings = { State.reset.settings with
        moduleReset := true, eventEnable := s.settings.eventEnable, stallLimit := s.settings.stallLimit } ∧
      t.events = { State.reset.events with
        host := { s.events.host with power := true }, noteResult := s.events.noteResult } ∧
      t.power = State.reset.power ∧ t.pins = s.pins ∧ t.now = s.now ∧ t.pending = s.pending ∧
      t.hostReply = .written ∧ t.lrst = true ∧ t.hready = false ∧ t.lpwr = false)

/-- DATAPATH_RESET (R172, R173): BUSY while one is in progress; with a transfer in flight it sets the discard flag and
waits; otherwise every datapath block is cleared at once, a held host is released without a fault record, and the rest
is kept. -/
def Obligations.DatapathResetByStatusAndTransfer : Prop :=
  ∀ s : State, s.localCanAct →
    (s.power.resetBusy = true →
      exec .datapathReset s = .next { s with power := { s.power with resetResult := .busy } }) ∧
    (∀ x, s.power.resetBusy = false → s.master.transfer = some x →
      exec .datapathReset s = .next { s with
        power := { s.power with resetBusy := true, resetResult := .ok }
        master := { s.master with transfer := some { x with discard := true } } }) ∧
    (s.power.resetBusy = false → s.master.transfer = none → ∃ t, exec .datapathReset s = .next t ∧
      (∀ e : EntryIdx, t.table.entries[e] = { editable := false, live := none }) ∧
      { t.table with entries := s.table.entries } = s.table ∧
      t.pwq = { records := [], seq := 0, held := .none } ∧ t.slot = { record := none, orphan := none } ∧
      t.lineset = { s.lineset with line0 := .invalid, line1 := .invalid } ∧
      t.master = { s.master with
        own := .released, run := 0, lastStream := .outbound,
        releaseMark := if s.master.own = .released then s.master.releaseMark else some s.now } ∧
      t.stall = none ∧ t.faults = { s.faults with queue := [], lost := 0 } ∧
      t.inb = { State.reset.inb with
        base := s.inb.base, size := s.inb.size, drop := s.inb.drop, hold := s.inb.hold } ∧
      t.outb = { State.reset.outb with base := s.outb.base, size := s.outb.size, hold := s.outb.hold } ∧
      t.stream = { s.stream with refused := false, dropped := false, emptyRead := false, indexRefused := false } ∧
      t.settings = s.settings ∧
      t.events = { s.events with loc := { s.events.loc with datapathDone := true } } ∧
      t.power = { s.power with resetResult := .ok } ∧
      t.pins = s.pins ∧ t.now = s.now ∧ t.pending = s.pending ∧
      (s.slot.record.isSome = true ∨ s.outb.held.isSome = true → t.hostReply = .read 0xFFFF#16) ∧
      (s.slot.record = none → s.outb.held = none → s.pwq.held ≠ .none ∨ s.inb.held.isSome = true →
        t.hostReply = .written) ∧
      (s.hostHeld = false → t.hostReply = s.hostReply))

/-! ### The power states -/

/-- A host write of S1 by power state (R163): stored, S1_NOTICE set, and the table's change of state. -/
def Obligations.PowerRequestByPowerState : Prop :=
  ∀ (low : Bool) (s : State), s.hostCanAct →
    let stored : State := { s with
      hostReply := .written
      settings := { s.settings with powerLow := low, notices := { s.settings.notices with s1 := true } } }
    let moved (p : PowerState) (l : LocalEvents) : State :=
      { stored with power := { s.power with state := p }, events := { s.events with loc := l } }
    (s.power.state = .starting ∨ s.power.state = .waking → exec (.powerRequest low) s = .next stored) ∧
    (s.power.state = .active → exec (.powerRequest low) s =
      .next (if low then moved .quiescing { s.events.loc with quiesce := true } else stored)) ∧
    (s.power.state = .quiescing → exec (.powerRequest low) s =
      .next (if low then stored else moved .active { s.events.loc with cancel := true })) ∧
    (s.power.state = .dormant → exec (.powerRequest low) s =
      .next (if low then stored
        else { stored with
          power := { s.power with state := .waking, cause := some .hostRequest }
          events := { s.events with loc := { s.events.loc with wake := true } } }))

/-- MODULE_READY by power state (R162, R168); its write stores the wake settings first (R180). -/
def Obligations.ModuleReadyByPowerState : Prop :=
  ∀ (a b : Bool) (s : State), s.localCanAct →
    (s.power.state = .starting ∨ s.power.state = .waking → exec (.moduleReady a b) s =
      .next (State.poll { s with
        power := { s.power with
          state := if s.settings.powerLow then .quiescing else .active,
          wakeOnAccess := a, wakeOnAttention := b, result := .ok }
        events := { s.events with
          host := { s.events.host with power := true },
          loc := { s.events.loc with quiesce := s.events.loc.quiesce || s.settings.powerLow } } })) ∧
    (s.power.state = .active ∨ s.power.state = .quiescing ∨ s.power.state = .dormant →
      exec (.moduleReady a b) s = .next { s with
        power := { s.power with wakeOnAccess := a, wakeOnAttention := b, result := .badState } })

/-- REMAIN, DORMANT_CONFIRM and WAKE by power state and drain (R165, R166, R167). -/
def Obligations.RemainConfirmAndWakeByPowerState : Prop :=
  ∀ (a b : Bool) (s : State), s.localCanAct →
    let answered (r : Result) : State :=
      { s with power := { s.power with wakeOnAccess := a, wakeOnAttention := b, result := r } }
    let drained : Prop := s.pwq.records = [] ∧ s.slot.record = none ∧ s.slot.orphan = none ∧ s.inb.fifo = [] ∧
      s.master.transfer = none
    (s.power.state = .quiescing → exec (.remain a b) s = .next { s with
      power := { s.power with state := .active, wakeOnAccess := a, wakeOnAttention := b, result := .ok }
      settings := { s.settings with powerLow := false }
      events := { s.events with host := { s.events.host with power := true } } }) ∧
    (s.power.state ≠ .quiescing → exec (.remain a b) s = .next (answered .badState)) ∧
    (s.power.state = .quiescing → drained → exec (.dormantConfirm a b) s = .next (State.poll { s with
      power := { s.power with state := .dormant, wakeOnAccess := a, wakeOnAttention := b, result := .ok }
      events := { s.events with host := { s.events.host with power := true } } })) ∧
    (s.power.state = .quiescing → ¬ drained → exec (.dormantConfirm a b) s = .next (answered .notDrained)) ∧
    (s.power.state ≠ .quiescing → exec (.dormantConfirm a b) s = .next (answered .badState)) ∧
    (s.power.state = .dormant → exec (.wake a b) s = .next { s with
      power := { s.power with
        state := .waking, cause := some .loc, wakeOnAccess := a, wakeOnAttention := b, result := .ok }
      settings := { s.settings with powerLow := false }
      events := { s.events with
        host := { s.events.host with power := true }, loc := { s.events.loc with wake := true } } }) ∧
    (s.power.state ≠ .dormant → exec (.wake a b) s = .next (answered .badState))

/-! ### The Aperture Table -/

/-- An OPEN that passes every check of R6 makes the entry OPEN with every staging field and counts 0, and changes
nothing else; host-editable is kept. SET_EDITABLE from the local window sets host-editable in every state (R10). -/
def Obligations.OpenAndSetEditableTaken : Prop :=
  (∀ (w : Window) (s : State) (a : Access), s.canCommand w → s.power.resetBusy = false → s.mayEdit w →
    let g := s.staging w
    s.live g.target = none → g.size.toNat ≤ 8 → accessOf g.access = some a →
    g.page.toNat % 2 ^ g.size.toNat = 0 →
    (∀ e, ∀ l ∈ s.live e, ∀ p, g.page.toNat ≤ p → p < g.page.toNat + 2 ^ g.size.toNat → ¬ l.ap.holdsPage p) →
    exec (.openEntry w) s = .next ((s.setLive g.target (some {
      phase := .opened
      ap := { page := g.page, size := g.size, base := g.base, access := a, strict := g.strict,
              streaming := g.streaming, combine := g.combine, swapped := g.swapped, slide := g.slide, hold := g.hold }
      slideCount := 0
      refused := 0 })).tableDone w .ok)) ∧
  (∀ s : State, s.localCanAct → s.power.resetBusy = false → ∃ t, exec (.setEditable .loc) s = .next t ∧
    (∀ e, t.live e = s.live e) ∧
    (∀ e : EntryIdx, (t.table.entries[e]).editable =
      if e = s.table.localStage.target then s.table.localStage.editable else (s.table.entries[e]).editable) ∧
    t.table.localResult = .ok ∧
    { t with table := { t.table with entries := s.table.entries, localResult := s.table.localResult } } = s)

/-- The checks of a table command in their order (R5, R6): BUSY while a datapath reset is in progress, NOT_PERMITTED
without the right to edit, then OPEN's own; a command that fails a check changes no entry. -/
def Obligations.TableCommandsTurnedAway : Prop :=
  ∀ (w : Window) (s : State), s.canCommand w →
    let g := s.staging w
    let turned (i : Instr) (r : Result) : Prop := exec i s = .next (s.tableDone w r)
    (s.power.resetBusy = true → ∀ i ∈ [Instr.openEntry w, .closeEntry w, .resumeEntry w, .retarget w, .setEditable w],
      turned i .busy) ∧
    (s.power.resetBusy = false →
      (w = .host → turned (.setEditable w) .notPermitted) ∧
      (¬ s.mayEdit w → ∀ i ∈ [Instr.openEntry w, .closeEntry w, .resumeEntry w, .retarget w],
        turned i .notPermitted) ∧
      (s.mayEdit w →
        (s.live g.target ≠ none → turned (.openEntry w) .badState) ∧
        (s.live g.target = none → 8 < g.size.toNat ∨ g.access = 3#2 → turned (.openEntry w) .badField) ∧
        (s.live g.target = none → g.size.toNat ≤ 8 → g.access ≠ 3#2 → g.page.toNat % 2 ^ g.size.toNat ≠ 0 →
          turned (.openEntry w) .misaligned) ∧
        (s.live g.target = none → g.size.toNat ≤ 8 → g.access ≠ 3#2 → g.page.toNat % 2 ^ g.size.toNat = 0 →
          (∃ e, ∃ l ∈ s.live e, ∃ p, g.page.toNat ≤ p ∧ p < g.page.toNat + 2 ^ g.size.toNat ∧ l.ap.holdsPage p) →
          turned (.openEntry w) .overlap)))

/-- CLOSE (R7): BAD_STATE of an EMPTY or DRAINING entry; an OPEN entry with records becomes DRAINING, any other EMPTY;
the lines filled through it are invalidated or spoiled; a write of it that waits for a slot is discarded, its host
released and the refusal counted when the entry is DRAINING (R14). Nothing else changes. -/
def Obligations.CloseByStateAndRecords : Prop :=
  ∀ (w : Window) (s : State), s.canCommand w → s.power.resetBusy = false → s.mayEdit w →
    let e := (s.staging w).target
    (s.live e = none → exec (.closeEntry w) s = .next (s.tableDone w .badState)) ∧
    (∀ l, s.live e = some l → l.phase = .draining → exec (.closeEntry w) s = .next (s.tableDone w .badState)) ∧
    (∀ l, s.live e = some l → l.phase ≠ .draining → ∃ t : State, exec (.closeEntry w) s = .next (t.tableDone w .ok) ∧
      let drains : Prop := l.phase = .opened ∧ ∃ r ∈ s.pwq.records, r.entry = e
      let waits : Prop := ∃ q, s.pwq.held = .slotWait q ∧ q.entry = e
      (¬ drains → t.live e = none) ∧
      (drains → ¬ waits → t.live e = some { l with phase := .draining }) ∧
      (drains → waits → t.live e = some { l with phase := .draining, refused := satInc l.refused }) ∧
      (∀ f, f ≠ e → t.table.entries[f] = s.table.entries[f]) ∧
      (t.table.entries[e]).editable = (s.table.entries[e]).editable ∧
      (∀ i, t.lineset.line i =
        if (s.lineset.line i).entry? = some e then (s.lineset.line i).strike else s.lineset.line i) ∧
      (waits → t.pwq = { s.pwq with held := .none } ∧ t.hostReply = .written ∧ t.stall = none) ∧
      (¬ waits → t.pwq = s.pwq ∧ t.hostReply = s.hostReply ∧ t.stall = s.stall) ∧
      t.lineset.freshness = s.lineset.freshness ∧ t.lineset.result = s.lineset.result ∧
      { t with
        table := { t.table with entries := s.table.entries }
        lineset := s.lineset
        pwq := s.pwq
        hostReply := s.hostReply
        stall := s.stall } = s)

/-- RESUME returns a SUSPENDED entry to OPEN with its refused count 0 (R8). RETARGET gives an OPEN entry without
pending work a new local base, clears its slide count and invalidates its lines; with pending work it answers
PENDING_WORK (R9). In any other state both answer BAD_STATE. (`tableDone` stores the result in the issuing window's
command register and, for the host, the answer, log entry 6.) -/
def Obligations.ResumeAndRetargetByState : Prop :=
  ∀ (w : Window) (s : State), s.canCommand w → s.power.resetBusy = false → s.mayEdit w →
    let e := (s.staging w).target
    let pending : Prop := (∃ r ∈ s.pwq.records, r.entry = e) ∨ (∃ q, s.pwq.held = .slotWait q ∧ q.entry = e) ∨
      (∃ r ∈ s.slot.record, r.entry = e) ∨ (∃ o ∈ s.slot.orphan, o.entry = e)
    (s.live e = none → exec (.resumeEntry w) s = .next (s.tableDone w .badState) ∧
      exec (.retarget w) s = .next (s.tableDone w .badState)) ∧
    (∀ l, s.live e = some l →
      (l.phase = .suspended → exec (.resumeEntry w) s =
        .next ((s.setLive e (some { l with phase := .opened, refused := 0 })).tableDone w .ok)) ∧
      (l.phase ≠ .suspended → exec (.resumeEntry w) s = .next (s.tableDone w .badState)) ∧
      (l.phase ≠ .opened → exec (.retarget w) s = .next (s.tableDone w .badState)) ∧
      (l.phase = .opened → pending → exec (.retarget w) s = .next (s.tableDone w .pendingWork)) ∧
      (l.phase = .opened → ¬ pending → exec (.retarget w) s =
        .next (((s.setLive e (some { l with
          ap := { l.ap with base := (s.staging w).base }, slideCount := 0 })).strikeEntry e).tableDone w .ok)))

/-! ### Host accesses in aperture space -/

/-- An access settled at once (R16 to R19): NOT_READY outside ACTIVE or during a datapath reset, UNMAPPED, refused and
counted by a SUSPENDED or DRAINING entry, or DENIED; a read gets filler and a write is discarded, and the fault
record, if one is made, is stored or counted as lost (R91). An access without a strobe does nothing (R15).
(`hostReply` is the model's record of the answer, log entry 6.) -/
def Obligations.AccessesSettledAtOnce : Prop :=
  ∀ (d : Direction) (ha : BitVec 23) (st : Strobes) (hd : Half) (s : State), s.hostCanAct →
    let i : Instr := match d with
      | .read => .hostApertureRead ha st
      | .write => .hostApertureWrite ha st hd
    let a := hostAddress ha st
    let done : State := { s with hostReply := match d with
      | .read => .read 0xFFFF#16
      | .write => .written }
    let faulted (f : FaultRecord) : State := { done with faults :=
      if s.faults.queue.length < 4 then { s.faults with queue := s.faults.queue ++ [f] }
      else { s.faults with lost := satInc s.faults.lost } }
    (st = { hlb := false, hub := false } → exec i s = .next done) ∧
    (anyStrobe st = true →
      ((s.power.state ≠ .active ∨ s.power.resetBusy = true) →
        (s.power.state ≠ .dormant ∨ s.power.wakeOnAccess = false → exec i s = .next done) ∧
        (s.power.state = .dormant → s.power.wakeOnAccess = true → exec i s = .next { done with
          power := { s.power with state := .waking, cause := some .hostAccess }
          settings := { s.settings with powerLow := false }
          events := { s.events with
            host := { s.events.host with power := true }, loc := { s.events.loc with wake := true } } })) ∧
      (s.power.state = .active → s.power.resetBusy = false →
        ((∀ e, ∀ l ∈ s.live e, ¬ l.ap.holdsPage (a.toNat / 4096)) → exec i s = .next (faulted {
          kind := .unmapped, origin := .hostAccess, direction := d, entry := none, hostAddr := some a,
          localAddr := none, seq := none, dropped := none, inFlight := none })) ∧
        (∀ e l, s.apertureLaw → s.live e = some l → l.ap.holdsPage (a.toNat / 4096) →
          (l.phase ≠ .opened → exec i s =
            .next (done.setLive e (some { l with refused := satInc l.refused }))) ∧
          (l.phase = .opened → l.ap.permits d = false → exec i s = .next (faulted {
            kind := .denied, origin := .hostAccess, direction := d, entry := some e, hostAddr := some a,
            localAddr := none, seq := none, dropped := none, inFlight := none })))))

/-- A sliding entry advances by its size at the access of its final word, and only then (R22, R23). -/
def Obligations.SlideAtTheFinalWord : Prop :=
  ∀ (e : EntryIdx) (word : Word) (s : State) (l : LiveEntry), s.live e = some l →
    let final := l.ap.localBase + (BitVec.ofNat 32 (4096 * 2 ^ l.ap.size.toNat) - 4#32)
    ((l.phase = .opened ∧ l.ap.slide = true ∧ word = final) →
      (∃ m, s.slideAt e word = s.setLive e (some m) ∧ m.slideCount = l.slideCount + 1 ∧
        m.ap.localBase = l.ap.localBase + BitVec.ofNat 32 (4096 * 2 ^ l.ap.size.toNat) ∧
        { m with ap := { m.ap with base := l.ap.base }, slideCount := l.slideCount } = l)) ∧
    (¬ (l.phase = .opened ∧ l.ap.slide = true ∧ word = final) → s.slideAt e word = s)

/-- A POSTED write through an OPEN entry that permits it is answered at once: it combines into the tail record when R30
allows, else it becomes a new record while fewer than 16 are held (R29, R30, R34); its word is R20's and its bytes stand
on R21's lanes (a lane outside them carries 0, log entry 14); in the same event the lines covering its word are struck
(R33), VALID to INVALID and FILLING to spoiled (R54), and the entry may slide (R22). -/
def Obligations.PostedWriteAdmitted : Prop :=
  (∀ (word : Word) (s : State),
    let struck (l : Line) : Line := match l with
      | .invalid => .invalid
      | .filling b e a => .filling (b || decide (a = word &&& 0xFFFFFFE0#32)) e a
      | .valid e a d t => if a = word &&& 0xFFFFFFE0#32 then .invalid else .valid e a d t
    s.strikeWord word = { s with lineset := { s.lineset with
      line0 := struck s.lineset.line0, line1 := struck s.lineset.line1 } }) ∧
  ∀ (ha : BitVec 23) (st : Strobes) (hd : Half) (s : State) (e : EntryIdx) (l : LiveEntry),
    s.hostCanAct → anyStrobe st = true → s.power.state = .active → s.power.resetBusy = false → s.apertureLaw →
    s.live e = some l → l.phase = .opened → l.ap.holdsPage ((hostAddress ha st).toNat / 4096) →
    l.ap.permits .write = true → l.ap.strict = false →
    let word := wordOf (l.ap.localByte (hostAddress ha st))
    let mask := writeMask ha st l.ap.swapped
    let data := writeData ha st hd l.ap.swapped
    let admitted (records : List WriteRecord) (seq : BitVec 8) : State :=
      ((({ s with hostReply := .written, pwq := { s.pwq with records := records, seq := seq } } : State).strikeWord
        word).slideAt e word).poll
    let combines (t : WriteRecord) : Prop := l.ap.combine = true ∧ t.entry = e ∧ t.word = word ∧ t.strict = false ∧
      t.inFlight = false ∧ t.mask &&& mask = 0#4
    l.ap.formsWord ha st (hostAddress ha st) word ∧ placesBytes ha st hd l.ap.swapped mask data ∧
    (∀ older t, s.pwq.records = older ++ [t] → combines t →
      exec (.hostApertureWrite ha st hd) s = .next (admitted
        (older ++ [{ t with mask := t.mask ||| mask, data := t.data ||| data }]) s.pwq.seq)) ∧
    ((∀ older t, s.pwq.records = older ++ [t] → ¬ combines t) → s.pwq.records.length < 16 →
      exec (.hostApertureWrite ha st hd) s = .next (admitted
        (s.pwq.records ++ [{ seq := s.pwq.seq, entry := e, hostAddr := hostAddress ha st, word := word, mask := mask,
                             data := data, strict := false, inFlight := false }])
        (s.pwq.seq + 1)))

/-- A write the queue holds in wait: a STRICT write is admitted and waits for its record (R34); a write that finds 16
records and cannot combine is kept whole for a slot (R31). Its word is R20's and its bytes stand on R21's lanes (a lane
outside them carries 0, log entry 14). The Stall Monitor starts unless STALL_LIMIT is 0 (R84). -/
def Obligations.WriteHeldForItsRecordOrForASlot : Prop :=
  ∀ (ha : BitVec 23) (st : Strobes) (hd : Half) (s : State) (e : EntryIdx) (l : LiveEntry),
    s.hostCanAct → anyStrobe st = true → s.power.state = .active → s.power.resetBusy = false → s.apertureLaw →
    s.live e = some l → l.phase = .opened → l.ap.holdsPage ((hostAddress ha st).toNat / 4096) →
    l.ap.permits .write = true →
    let word := wordOf (l.ap.localByte (hostAddress ha st))
    let mask := writeMask ha st l.ap.swapped
    let data := writeData ha st hd l.ap.swapped
    let timed : Option StallTiming := if s.settings.stallLimit = 0#12 then s.stall
      else some { holder := .pwq, timer := { start := s.now, limit := s.settings.stallLimit.toNat } }
    l.ap.formsWord ha st (hostAddress ha st) word ∧ placesBytes ha st hd l.ap.swapped mask data ∧
    (l.ap.strict = true → s.pwq.records.length < 16 → ∃ t : State, exec (.hostApertureWrite ha st hd) s = .next t.poll ∧
      t = (({ s with
        pwq := {
          records := s.pwq.records ++ [{ seq := s.pwq.seq, entry := e, hostAddr := hostAddress ha st, word := word,
                                         mask := mask, data := data, strict := true, inFlight := false }]
          seq := s.pwq.seq + 1
          held := .recordWait s.pwq.seq }
        hostReply := .held
        stall := timed } : State).strikeWord word).slideAt e word) ∧
    (16 ≤ s.pwq.records.length →
      (∀ older t, s.pwq.records = older ++ [t] → ¬ (l.ap.combine = true ∧ l.ap.strict = false ∧ t.entry = e ∧
        t.word = word ∧ t.strict = false ∧ t.inFlight = false ∧ t.mask &&& mask = 0#4)) →
      exec (.hostApertureWrite ha st hd) s = .next (State.poll { s with
        pwq := { s.pwq with held := .slotWait {
          entry := e, hostAddr := hostAddress ha st, word := word, mask := mask, data := data, strict := l.ap.strict,
          combine := l.ap.combine } }
        hostReply := .held
        stall := timed }))

/-- A read through an OPEN entry that permits it (R46, R47, R49): a hit is answered at once from the line with the
lanes back in host order and may slide the entry; a miss enters the Read Slot, holds the host and waits for order, or
passes to BUS_WAIT when the PWQ is empty and no orphan is present. Its word is R20's, and its byte enables and the
halves of its answer follow R21's lanes. -/
def Obligations.AdmittedReadHitsOrEntersTheSlot : Prop :=
  ∀ (ha : BitVec 23) (st : Strobes) (s : State) (e : EntryIdx) (l : LiveEntry),
    s.hostCanAct → anyStrobe st = true → s.power.state = .active → s.power.resetBusy = false → s.apertureLaw →
    s.live e = some l → l.phase = .opened → l.ap.holdsPage ((hostAddress ha st).toNat / 4096) →
    l.ap.permits .read = true →
    let word := wordOf (l.ap.localByte (hostAddress ha st))
    let lanes := readLanes ha st l.ap.swapped
    let mayHit : Prop := l.ap.streaming = true ∧ s.settings.s7.accepted = 1#4
    let holdsIt (i : LineIdx) : Prop := ∃ d t, s.lineset.line i = .valid e (lineAddr word) d t
    l.ap.formsWord ha st (hostAddress ha st) word ∧ returnsBytes ha st l.ap.swapped lanes ∧
    lineAddr word = word &&& 0xFFFFFFE0#32 ∧
    (∀ i d t, mayHit → s.lineset.line i = .valid e (lineAddr word) d t → (i = 1 → ¬ holdsIt 0) →
      exec (.hostApertureRead ha st) s = .next
        (({ s with hostReply := .read (lanes.answer (d.getD ((word.toNat % 32) / 4) 0)) } : State).slideAt e
          word).poll) ∧
    ((¬ mayHit ∨ ¬ (holdsIt 0 ∨ holdsIt 1)) →
      exec (.hostApertureRead ha st) s = .next (State.poll { s with
        slot := { s.slot with record := some {
          hostAddr := hostAddress ha st, entry := e, word := word, lanes := lanes,
          kind := if l.ap.streaming = true ∧ s.settings.s7.accepted = 1#4 then .line else .single,
          phase := if s.pwq.records = [] ∧ s.slot.orphan = none then .busWait else .orderWait, line := none } }
        hostReply := .held
        stall := if s.settings.stallLimit = 0#12 then s.stall
          else some { holder := .readSlot, timer := { start := s.now, limit := s.settings.stallLimit.toNat } } }))

/-! ### The stream channels -/

/-- A Stream Data write (R109): with no strobe nothing; refused, and offered as a wake source, where it is not
served; bytes past a message of 65,535 are discarded; the rest enter, are dropped, or hold the host (R110, R111). -/
def Obligations.StreamWriteOutcomes : Prop :=
  ∀ (st : Strobes) (hd : Half) (s : State), s.hostCanAct →
    let i : Instr := .streamDataWrite st hd
    let done : State := { s with hostReply := .written }
    let refused : State := { done with stream := { s.stream with refused := true } }
    let served : Prop := s.inb.state = .running ∧ s.power.state = .active ∧ s.power.resetBusy = false
    let bytes := (if st.hlb then [hd.extractLsb' 0 8] else []) ++ (if st.hub then [hd.extractLsb' 8 8] else [])
    let entering := bytes.take (65535 - s.inb.msgLen)
    let damaged := s.inb.damaged || decide (entering.length < bytes.length)
    (anyStrobe st = false → exec i s = .next done) ∧
    (anyStrobe st = true → ¬ served →
      (s.power.state ≠ .dormant ∨ s.power.wakeOnAccess = false → exec i s = .next refused) ∧
      (s.power.state = .dormant → s.power.wakeOnAccess = true → exec i s = .next { refused with
        power := { s.power with state := .waking, cause := some .hostAccess }
        settings := { s.settings with powerLow := false }
        events := { s.events with
          host := { s.events.host with power := true }, loc := { s.events.loc with wake := true } } })) ∧
    (anyStrobe st = true → served →
      (entering.length ≤ 32 - s.inb.fifo.length → exec i s = .next (State.poll { done with
        inb := { s.inb with
          fifo := s.inb.fifo ++ entering, msgLen := s.inb.msgLen + entering.length, damaged := damaged,
          linger := if s.inb.fifo = [] ∧ entering ≠ [] then .running s.now else s.inb.linger } })) ∧
      (32 - s.inb.fifo.length < entering.length → s.inb.drop = true → exec i s = .next (State.poll { done with
        inb := { s.inb with damaged := true }, stream := { s.stream with dropped := true } })) ∧
      (32 - s.inb.fifo.length < entering.length → s.inb.drop = false → exec i s = .next (State.poll { s with
        inb := { s.inb with damaged := damaged, held := some entering }
        hostReply := .held
        stall := if s.settings.stallLimit = 0#12 then s.stall
          else some { holder := .inbound, timer := { start := s.now, limit := s.settings.stallLimit.toNat } } })))

/-- A Stream Data read (R119, R120): filler with no strobe; refused, and offered as a wake source, where it is not
served; filler with EMPTY_READ when no byte is available; the FIFO's head bytes when it holds them; else the host is
held, and the read is answered when judged anew with its bytes in the FIFO. That a read with no strobe sets nothing also
where it is not served rests on log entry 10 (DEDUCED), and that a held read stays held where no byte is available, which
no run reaches, on log entry 18 (DEDUCED). -/
def Obligations.StreamReadOutcomes : Prop :=
  ∀ (st : Strobes) (s : State),
    let i : Instr := .streamDataRead st
    let filler : State := { s with hostReply := .read 0xFFFF#16 }
    let refused : State := { filler with stream := { s.stream with refused := true } }
    let served : Prop := s.outb.state = .running ∧ s.power.state = .active ∧ s.power.resetBusy = false
    let n := min (if st.hlb && st.hub then 2 else 1) s.outb.available
    let low : Byte := if st.hlb then (s.outb.fifo.take n).getD 0 0xFF#8 else 0xFF#8
    let high : Byte := if st.hub then (s.outb.fifo.take n).getD (if st.hlb then 1 else 0) 0xFF#8 else 0xFF#8
    let answered : State := { s with
      outb := { s.outb with fifo := s.outb.fifo.drop n, consume := (s.outb.consume + n) % (2 * ringSize s.outb.size) }
      hostReply := .read (high ++ low) }
    (s.hostCanAct →
      (anyStrobe st = false → exec i s = .next filler) ∧
      (anyStrobe st = true → ¬ served →
        (s.power.state ≠ .dormant ∨ s.power.wakeOnAccess = false → exec i s = .next refused) ∧
        (s.power.state = .dormant → s.power.wakeOnAccess = true → exec i s = .next { refused with
          power := { s.power with state := .waking, cause := some .hostAccess }
          settings := { s.settings with powerLow := false }
          events := { s.events with
            host := { s.events.host with power := true }, loc := { s.events.loc with wake := true } } })) ∧
      (anyStrobe st = true → served →
        (n = 0 → exec i s =
          .next (State.poll { filler with stream := { s.stream with emptyRead := true } })) ∧
        (0 < n → n ≤ s.outb.fifo.length → exec i s = .next answered.poll) ∧
        (s.outb.fifo.length < n → exec i s = .next (State.poll { s with
          outb := { s.outb with held := some st }
          hostReply := .held
          stall := if s.settings.stallLimit = 0#12 then s.stall
            else some { holder := .outbound, timer := { start := s.now, limit := s.settings.stallLimit.toNat } } })))) ∧
    (anyStrobe st = true → s.outb.held = some st →
      (0 < n → n ≤ s.outb.fifo.length →
        s.judgeRead = { answered with outb := { answered.outb with held := none }, stall := none }) ∧
      (n = 0 ∨ s.outb.fifo.length < n → s.judgeRead = s))

/-- END with its tests in order (R114) and NEXT (R121). -/
def Obligations.EndAndNextByTheirChecks : Prop :=
  ∀ s : State, s.hostCanAct →
    let answered (r : Result) : State :=
      { s with hostReply := .written, stream := { s.stream with hostResult := r } }
    let ready : Prop := s.power.state = .active ∧ s.power.resetBusy = false
    let fetching : Prop := ∃ x ∈ s.master.transfer, x.client = .outbound
    (¬ ready → exec .endMessage s = .next (answered .notReady)) ∧
    (ready → s.inb.state ≠ .running → exec .endMessage s = .next (answered .notRunning)) ∧
    (ready → s.inb.state = .running → s.inb.msgLen = 0 → exec .endMessage s = .next (answered .empty)) ∧
    (ready → s.inb.state = .running → s.inb.msgLen ≠ 0 → 8 ≤ s.inb.boundaries.length →
      exec .endMessage s = .next (answered .full)) ∧
    (ready → s.inb.state = .running → s.inb.msgLen ≠ 0 → s.inb.boundaries.length < 8 →
      exec .endMessage s = .next (State.poll { answered .ok with inb := { s.inb with
        boundaries := s.inb.boundaries ++ [{
          endPos := (s.inb.produce + s.inb.fifo.length) % (2 * ringSize s.inb.size), length := s.inb.msgLen,
          damaged := s.inb.damaged, visible := decide (s.inb.fifo = []) }]
        msgLen := 0
        damaged := false } })) ∧
    (s.power.resetBusy = true → exec .nextMessage s = .next (answered .notReady)) ∧
    (s.power.resetBusy = false → s.outb.marks = [] → exec .nextMessage s = .next (answered .noMessage)) ∧
    (∀ m rest, s.power.resetBusy = false → s.outb.marks = m :: rest →
      ∃ c : Outbound, exec .nextMessage s = .next (State.poll { answered .ok with
        outb := c, events := { s.events with loc := { s.events.loc with markTaken := true } } }) ∧
      (s.outb.consume = m → c = { s.outb with marks := rest }) ∧
      (s.outb.consume ≠ m → fetching →
        c = { s.outb with marks := rest, fifo := [], fetch := m, consume := m, fetchVoid := true }) ∧
      (s.outb.consume ≠ m → ¬ fetching →
        c = { s.outb with marks := rest, fifo := [], fetch := m, consume := m }))

/-- IN_START, IN_STOP and IN_RESTART by channel state (R106): BUSY during a datapath reset; IN_STOP ends a held write
(R110) and leaves the channel FLUSHING while its FIFO holds bytes. -/
def Obligations.InboundCommandsByState : Prop :=
  ∀ s : State, s.localCanAct →
    let answered (r : Result) : State := { s with stream := { s.stream with localResult := r } }
    let started : State := State.poll { answered .ok with inb := { s.inb with state := .running } }
    let ring : Prop := s.inb.size.toNat ≤ 8 ∧ (s.inb.base ++ 0#8).toNat % (256 * 2 ^ s.inb.size.toNat) = 0
    (s.power.resetBusy = true →
      ∀ i ∈ [Instr.inStart, .inStop, .inRestart], exec i s = .next (answered .busy)) ∧
    (s.power.resetBusy = false →
      (s.inb.state ≠ .off → exec .inStart s = .next (answered .badState)) ∧
      (s.inb.state = .off → s.settings.s5.accepted ≠ 1#4 → exec .inStart s = .next (answered .notEnabled)) ∧
      (s.inb.state = .off → s.settings.s5.accepted = 1#4 → ¬ ring → exec .inStart s = .next (answered .badRing)) ∧
      (s.inb.state = .off → s.settings.s5.accepted = 1#4 → ring → exec .inStart s = .next started) ∧
      (s.inb.state = .halted → exec .inRestart s = .next started) ∧
      (s.inb.state ≠ .halted → exec .inRestart s = .next (answered .badState)) ∧
      (s.inb.state = .off ∨ s.inb.state = .flushing → exec .inStop s = .next (answered .badState)) ∧
      (s.inb.state = .halted → exec .inStop s = .next (State.poll { answered .ok with inb := { s.inb with
        state := .off, msgLen := 0, damaged := false, fifo := [], linger := .stopped,
        boundaries := s.inb.boundaries.filter (fun b => b.visible) } })) ∧
      (s.inb.state = .running → ∃ t : State, exec .inStop s = .next t.poll ∧
        (s.inb.fifo = [] →
          t.inb = { s.inb with state := .off, held := none, msgLen := 0, damaged := false }) ∧
        (s.inb.fifo ≠ [] →
          t.inb = { s.inb with
            state := .flushing, held := none, damaged := s.inb.damaged || s.inb.held.isSome }) ∧
        t.stream = { s.stream with refused := s.stream.refused || s.inb.held.isSome, localResult := .ok } ∧
        (s.inb.held.isSome = true → t.hostReply = .written ∧ t.stall = none) ∧
        (s.inb.held = none → t.hostReply = s.hostReply ∧ t.stall = s.stall) ∧
        { t with inb := s.inb, stream := s.stream, hostReply := s.hostReply, stall := s.stall } = s))

/-- OUT_START, OUT_STOP and OUT_RESTART by channel state (R107): BUSY during a datapath reset; OUT_STOP discards the
FIFO, takes OUT_FETCH back to OUT_CONSUME, voids a fetch in flight (R118) and ends a held read with filler (R120). -/
def Obligations.OutboundCommandsByState : Prop :=
  ∀ s : State, s.localCanAct →
    let answered (r : Result) : State := { s with stream := { s.stream with localResult := r } }
    let started : State := State.poll { answered .ok with outb := { s.outb with state := .running } }
    let ring : Prop := s.outb.size.toNat ≤ 8 ∧ (s.outb.base ++ 0#8).toNat % (256 * 2 ^ s.outb.size.toNat) = 0
    let fetching : Prop := ∃ x ∈ s.master.transfer, x.client = .outbound
    (s.power.resetBusy = true →
      ∀ i ∈ [Instr.outStart, .outStop, .outRestart], exec i s = .next (answered .busy)) ∧
    (s.power.resetBusy = false →
      (s.outb.state ≠ .off → exec .outStart s = .next (answered .badState)) ∧
      (s.outb.state = .off → s.settings.s5.accepted ≠ 1#4 → exec .outStart s = .next (answered .notEnabled)) ∧
      (s.outb.state = .off → s.settings.s5.accepted = 1#4 → ¬ ring →
        exec .outStart s = .next (answered .badRing)) ∧
      (s.outb.state = .off → s.settings.s5.accepted = 1#4 → ring → exec .outStart s = .next started) ∧
      (s.outb.state = .halted → exec .outRestart s = .next started) ∧
      (s.outb.state ≠ .halted → exec .outRestart s = .next (answered .badState)) ∧
      (s.outb.state = .off → exec .outStop s = .next (answered .badState)) ∧
      (s.outb.state = .running ∨ s.outb.state = .halted → ∃ t : State, exec .outStop s = .next t.poll ∧
        (fetching → t.outb = { s.outb with
          state := .off, fifo := [], fetch := s.outb.consume, held := none, fetchVoid := true }) ∧
        (¬ fetching → t.outb = { s.outb with state := .off, fifo := [], fetch := s.outb.consume, held := none }) ∧
        t.stream = { s.stream with refused := s.stream.refused || s.outb.held.isSome, localResult := .ok } ∧
        (s.outb.held.isSome = true → t.hostReply = .read 0xFFFF#16 ∧ t.stall = none) ∧
        (s.outb.held = none → t.hostReply = s.hostReply ∧ t.stall = s.stall) ∧
        { t with outb := s.outb, stream := s.stream, hostReply := s.hostReply, stall := s.stall } = s))

/-- IN_POP (R115) removes a VISIBLE head. OUT_MARK (R116) is checked against the newest mark and OUT_PRODUCE; one taken
is appended, and on an empty list the fetched bytes past it are discarded and a fetch that reaches past it is void; a
held read is judged anew (R120). The ring of a size code 9..15 rests on log entry 12 (DEDUCED), and judging the read at
every accepted OUT_MARK on log entry 18 (DEDUCED). -/
def Obligations.PopAndMarkByTheirChecks : Prop :=
  ∀ (p : BitVec 17) (s : State), s.localCanAct →
    let answered (r : Result) : State := { s with stream := { s.stream with localResult := r } }
    let size := ringSize s.outb.size
    let ahead (i : Nat) : Nat := ringDist size s.outb.consume i
    let newest := (s.outb.marks.getLast?).getD s.outb.consume
    let good : Prop := p.toNat < 2 * size ∧ ringDist size newest p.toNat ≠ 0 ∧ ahead newest ≤ ahead p.toNat ∧
      ahead p.toNat ≤ ahead s.outb.produce
    let reaches : Prop := ∃ x ∈ s.master.transfer, x.client = .outbound ∧
      ahead p.toNat < ahead s.outb.fetch + x.runLen
    (s.power.resetBusy = true → exec .inPop s = .next (answered .busy) ∧
      exec (.outMark p) s = .next (answered .busy)) ∧
    (s.power.resetBusy = false →
      (s.inb.boundaries = [] → exec .inPop s = .next (answered .empty)) ∧
      (∀ b rest, s.inb.boundaries = b :: rest →
        (b.visible = false → exec .inPop s = .next (answered .notYet)) ∧
        (b.visible = true → exec .inPop s = .next { answered .ok with inb := { s.inb with boundaries := rest } })) ∧
      (8 ≤ s.outb.marks.length → exec (.outMark p) s = .next (answered .full)) ∧
      (s.outb.marks.length < 8 → ¬ good → exec (.outMark p) s = .next (answered .badMark)) ∧
      (s.outb.marks.length < 8 → good → ∃ c : Outbound,
        exec (.outMark p) s = .next (State.poll (State.judgeRead { answered .ok with outb := c })) ∧
        (s.outb.marks ≠ [] → c = { s.outb with marks := s.outb.marks ++ [p.toNat] }) ∧
        (s.outb.marks = [] → ∃ f v, c = { s.outb with
            marks := [p.toNat], fifo := s.outb.fifo.take (ahead p.toNat), fetch := f, fetchVoid := v } ∧
          (ahead p.toNat < ahead s.outb.fetch → f = p.toNat) ∧
          (ahead s.outb.fetch ≤ ahead p.toNat → f = s.outb.fetch) ∧
          (reaches → v = true) ∧ (¬ reaches → v = s.outb.fetchVoid))))

/-- Writes of the ring setting registers (R103, R179): base and size are taken while the channel is OFF, with its
indices and list cleared; mode and hold in every state; a change of IN_MODE to DROP ends a held write (R110), but
not during a datapath reset, where the host stays held (R124, R172; over R110 by log entry 21, DEDUCED). -/
def Obligations.RingSettingWritesByState : Prop :=
  ∀ (d : Word) (s : State), s.localCanAct →
    (s.inb.state = .off → exec (.ringSettingWrite .inBase d) s = .next { s with
      inb := { s.inb with base := d.extractLsb' 8 24, produce := 0, consume := 0, boundaries := [] } }) ∧
    (s.inb.state ≠ .off → exec (.ringSettingWrite .inBase d) s = .next s) ∧
    (s.outb.state = .off → exec (.ringSettingWrite .outBase d) s = .next { s with
      outb := { s.outb with base := d.extractLsb' 8 24, produce := 0, fetch := 0, consume := 0, marks := [] } }) ∧
    (s.outb.state ≠ .off → exec (.ringSettingWrite .outBase d) s = .next s) ∧
    (s.outb.state = .off → exec (.ringSettingWrite .outConfig d) s = .next { s with
      outb := { s.outb with
        size := d.extractLsb' 0 4, hold := d.extractLsb' 16 4, produce := 0, fetch := 0, consume := 0,
        marks := [] } }) ∧
    (s.outb.state ≠ .off → exec (.ringSettingWrite .outConfig d) s = .next { s with
      outb := { s.outb with hold := d.extractLsb' 16 4 } }) ∧
    (∃ t, exec (.ringSettingWrite .inConfig d) s = .next t ∧
      t.inb.drop = d.getLsbD 8 ∧ t.inb.hold = d.extractLsb' 16 4 ∧
      (s.inb.state = .off →
        t.inb.size = d.extractLsb' 0 4 ∧ t.inb.produce = 0 ∧ t.inb.consume = 0 ∧ t.inb.boundaries = []) ∧
      (s.inb.state ≠ .off → t.inb.size = s.inb.size ∧ t.inb.produce = s.inb.produce ∧
        t.inb.consume = s.inb.consume ∧ t.inb.boundaries = s.inb.boundaries) ∧
      (d.getLsbD 8 = true → s.inb.held.isSome = true → s.power.resetBusy = false →
        t.inb.held = none ∧ t.inb.damaged = true ∧ t.stream = { s.stream with dropped := true } ∧ t.hostReply = .written ∧ t.stall = none) ∧
      (d.getLsbD 8 = false ∨ s.inb.held = none ∨ s.power.resetBusy = true →
        t.inb.held = s.inb.held ∧ t.inb.damaged = s.inb.damaged ∧ t.stream = s.stream ∧ t.hostReply = s.hostReply ∧ t.stall = s.stall) ∧
      t.inb.state = s.inb.state ∧ t.inb.fifo = s.inb.fifo ∧ t.inb.base = s.inb.base ∧ t.inb.linger = s.inb.linger ∧
      t.inb.msgLen = s.inb.msgLen ∧
      { t with inb := s.inb, stream := s.stream, hostReply := s.hostReply, stall := s.stall } = s)

/-- Writes of IN_CONSUME and OUT_PRODUCE are taken when the index lies where R105 allows and bits 31:17 are 0 (R179);
any other, and every one during a datapath reset, changes INDEX_REFUSED only, which a one clears. The checks under a
size code 9..15 rest on log entry 12 (DEDUCED), and judging a held read at every accepted OUT_PRODUCE on log entry 18
(DEDUCED). -/
def Obligations.IndexWritesByTheirChecks : Prop :=
  ∀ (d : Word) (s : State), s.localCanAct →
    let refused : State := { s with stream := { s.stream with indexRefused := true } }
    let sizeIn := ringSize s.inb.size
    let sizeOut := ringSize s.outb.size
    let ahead (i : Nat) : Nat := ringDist sizeOut s.outb.consume i
    let goodIn : Prop := s.power.resetBusy = false ∧ d.toNat < 2 ^ 17 ∧ d.toNat < 2 * sizeIn ∧
      ringDist sizeIn s.inb.consume d.toNat ≤ ringDist sizeIn s.inb.consume s.inb.produce
    let goodOut : Prop := s.power.resetBusy = false ∧ d.toNat < 2 ^ 17 ∧ d.toNat < 2 * sizeOut ∧
      ahead s.outb.produce ≤ ahead d.toNat ∧ ahead d.toNat ≤ sizeOut
    (goodIn → exec (.inConsume d) s = .next (State.poll { s with inb := { s.inb with consume := d.toNat } })) ∧
    (¬ goodIn → exec (.inConsume d) s = .next refused) ∧
    (goodOut → exec (.outProduce d) s =
      .next (State.poll (State.judgeRead { s with outb := { s.outb with produce := d.toNat } }))) ∧
    (¬ goodOut → exec (.outProduce d) s = .next refused) ∧
    exec .indexRefusedClear s = .next { s with stream := { s.stream with indexRefused := false } }

/-! ### Settings, proposals and answers -/

/-- A host write of a negotiated setting (R132, R133): out of range, a pending proposal of the setting is removed and
the outcome becomes REJECTED with reason 15; in range, a proposal with the next serial takes its place at the tail. -/
def Obligations.NegotiatedWriteByRange : Prop :=
  ∀ (n : NegSetting) (v : BitVec 4) (s : State), s.hostCanAct →
    let top := if n = .attentionRoute then 2 else 1
    let f := s.settings.neg n
    let others := s.settings.proposals.filter (fun p => p.setting ≠ n)
    ∃ t, exec (.negotiatedSettingWrite n v) s = .next t ∧
      (∀ m, m ≠ n → t.settings.neg m = s.settings.neg m) ∧
      (top < v.toNat → t.settings.neg n = { f with outcome := .rejected, reason := 15#4 } ∧
        t.settings.proposals = others ∧
        t.events = { s.events with host := { s.events.host with answer := true } }) ∧
      (v.toNat ≤ top → t.settings.neg n = { f with serial := f.serial + 1, outcome := .pending, reason := 0 } ∧
        t.settings.proposals = others ++ [{
          setting := n, serial := f.serial + 1, value := v,
          timer := if s.settings.answerLimit = 0#8 then none
            else some { start := s.now, limit := 1000 * s.settings.answerLimit.toNat } }] ∧
        t.events = s.events) ∧
      t.hostReply = .written ∧
      { t.settings with
        s4 := s.settings.s4, s5 := s.settings.s5, s6 := s.settings.s6, s7 := s.settings.s7
        proposals := s.settings.proposals } = s.settings ∧
      { t with settings := s.settings, events := s.events, hostReply := s.hostReply } = s

/-- An ANSWER_ACCEPT that names a pending proposal (R136) stores its value. STREAM_ENABLE becoming 0 is handled as IN_STOP
and OUT_STOP (R108); LINE_PERMIT becoming 0 strikes both lines and makes a waiting LINE read SINGLE (R55). As IN_STOP, a
RUNNING channel ends a held write and is FLUSHING, or OFF with an empty FIFO, a HALTED one is OFF, and a FLUSHING or OFF
one is not changed; as OUT_STOP, a channel that is not OFF is OFF and ends a held read, and one that is OFF is not changed
(R106, R107, R108, R110, R118, R120). During a datapath reset the channels change so too, and a held host stays held
(R124, R142, R172; over R110 and R120 by log entry 21, DEDUCED). -/
def Obligations.AnswerAcceptTaken : Prop :=
  (∀ s : State,
    let stays : Bool := s.power.resetBusy
    let held : Bool := s.inb.held.isSome && !stays
    let reading : Bool := s.outb.held.isSome && !stays
    let off : Inbound := { s.inb with state := .off, msgLen := 0, damaged := false }
    (s.inb.state = .running → s.stopIn = { s with
      inb := if s.inb.fifo = [] then { off with held := if stays then s.inb.held else none }
        else { s.inb with
          state := .flushing, held := if stays then s.inb.held else none, damaged := s.inb.damaged || held }
      stream := { s.stream with refused := s.stream.refused || held }
      hostReply := if held then .written else s.hostReply
      stall := if held then none else s.stall }) ∧
    (s.inb.state = .halted → s.stopIn = { s with inb := { off with
      fifo := [], linger := .stopped, boundaries := s.inb.boundaries.filter (fun b => b.visible) } }) ∧
    (s.inb.state = .flushing ∨ s.inb.state = .off → s.stopIn = s) ∧
    (s.outb.state ≠ .off → s.stopOut = { s with
      outb := { s.outb with
        state := .off, fifo := [], fetch := s.outb.consume, held := if stays then s.outb.held else none,
        fetchVoid := s.outb.fetchVoid || s.master.transfer.any (fun x => decide (x.client = .outbound)) }
      stream := { s.stream with refused := s.stream.refused || reading }
      hostReply := if reading then .read 0xFFFF#16 else s.hostReply
      stall := if reading then none else s.stall }) ∧
    (s.outb.state = .off → s.stopOut = s)) ∧
  ∀ (p : Proposal) (i : BitVec 3) (reason : BitVec 4) (s : State),
    s.localCanAct → s.proposalLaw → p ∈ s.settings.proposals → negOf i = some p.setting →
    let n := p.setting
    let f := s.settings.neg n
    let accepted : State := { s with
      settings := { s.settings.setNeg n { f with accepted := p.value, outcome := .accepted, reason := 0 } with
        proposals := s.settings.proposals.filter (fun q => q.setting ≠ n), answerResult := .ok }
      events := { s.events with host := { s.events.host with answer := true } } }
    let i := Instr.answerAccept i p.serial reason
    (f.accepted = p.value ∨ p.value ≠ 0#4 ∨ n = .attentionRoute ∨ n = .tableRights →
      exec i s = .next accepted.poll) ∧
    (f.accepted ≠ p.value → p.value = 0#4 → n = .streamEnable →
      exec i s = .next (State.poll (State.stopOut (State.stopIn accepted)))) ∧
    (f.accepted ≠ p.value → p.value = 0#4 → n = .linePermit → exec i s = .next (State.poll { accepted with
      lineset := { s.lineset with line0 := s.lineset.line0.strike, line1 := s.lineset.line1.strike }
      slot := { s.slot with record := s.slot.record.map (fun r =>
        if r.phase = .inFlight then r else { r with kind := .single }) } }))

/-- A pending proposal ends by ANSWER_REJECT with a reason 1..14 (R137). -/
def Obligations.AnswerRejectTaken : Prop :=
  ∀ (p : Proposal) (i : BitVec 3) (reason : BitVec 4) (s : State),
    s.localCanAct → s.proposalLaw → p ∈ s.settings.proposals → negOf i = some p.setting →
    reason ≠ 0#4 → reason ≠ 15#4 →
    exec (.answerReject i p.serial reason) s = .next { s with
      settings := { s.settings.setNeg p.setting { s.settings.neg p.setting with
          outcome := .rejected, reason := reason } with
        proposals := s.settings.proposals.filter (fun q => q.setting ≠ p.setting), answerResult := .ok }
      events := { s.events with host := { s.events.host with answer := true } } }

/-- The expiry of the answer timer of a setting's present proposal, which the command does not name by its serial (log
entry 24, R139); the moment is at least its limit after its start (log entry 2). With no timer running for the setting
nothing changes. -/
def Obligations.AnswerExpiryEndsTheProposal : Prop :=
  ∀ (n : NegSetting) (s : State), s.pins.pon = false → s.proposalLaw →
    (∀ p ∈ s.settings.proposals, p.setting = n → ∀ t ∈ p.timer, exec (.answerExpiry n) s = .next (State.poll { s with
      now := max s.now (t.start + t.limit)
      settings := { s.settings.setNeg n { s.settings.neg n with outcome := .expired, reason := 0 } with
        proposals := s.settings.proposals.filter (fun q => q.setting ≠ n) }
      events := { s.events with host := { s.events.host with answer := true } } })) ∧
    ((∀ p ∈ s.settings.proposals, p.setting = n → p.timer = none) → exec (.answerExpiry n) s = .next s)

/-- The checks of an answer in their order (R135): BAD_FIELD for the index of a direct setting or a rejection with
reason 0 or 15, STALE when no pending proposal of the setting has the serial; the answer then changes its result only. -/
def Obligations.AnswersTurnedAway : Prop :=
  ∀ (i : BitVec 3) (serial : BitVec 8) (reason : BitVec 4) (s : State), s.localCanAct → s.proposalLaw →
    let answered (r : Result) : State := { s with settings := { s.settings with answerResult := r } }
    let missing : Prop := ∀ p ∈ s.settings.proposals, negOf i = some p.setting → p.serial ≠ serial
    (i.toNat < 4 → exec (.answerAccept i serial reason) s = .next (answered .badField) ∧
      exec (.answerReject i serial reason) s = .next (answered .badField)) ∧
    (4 ≤ i.toNat → missing → exec (.answerAccept i serial reason) s = .next (answered .stale)) ∧
    (4 ≤ i.toNat → reason = 0#4 ∨ reason = 15#4 →
      exec (.answerReject i serial reason) s = .next (answered .badField)) ∧
    (4 ≤ i.toNat → reason ≠ 0#4 → reason ≠ 15#4 → missing →
      exec (.answerReject i serial reason) s = .next (answered .stale))

/-! ### Events, notes, faults and the attention line -/

/-- Writing one clears a latched event, a notice flag or a stream flag, and zero leaves it; the conditions follow their
state (R122, R129, R147, R150). Nothing else changes. -/
def Obligations.WritingOneClears : Prop :=
  (∀ (d : Half) (s : State), s.hostCanAct → exec (.hostEvent d) s = .next { s with
    hostReply := .written
    events := { s.events with host := {
      answer := s.events.host.answer && !d.getLsbD 0, attention := s.events.host.attention && !d.getLsbD 1,
      power := s.events.host.power && !d.getLsbD 2 } } }) ∧
  (∀ (d : Word) (s : State), s.localCanAct → exec (.localEvent d) s = .next { s with
    events := { s.events with loc := {
      attention := s.events.loc.attention && !d.getLsbD 0, quiesce := s.events.loc.quiesce && !d.getLsbD 1,
      cancel := s.events.loc.cancel && !d.getLsbD 2, wake := s.events.loc.wake && !d.getLsbD 3,
      grantSlow := s.events.loc.grantSlow && !d.getLsbD 4, table := s.events.loc.table && !d.getLsbD 5,
      markTaken := s.events.loc.markTaken && !d.getLsbD 6,
      datapathDone := s.events.loc.datapathDone && !d.getLsbD 7 } } }) ∧
  (∀ (d : BitVec 4) (s : State), s.localCanAct → exec (.notice d) s = .next { s with
    settings := { s.settings with notices := {
      s0 := s.settings.notices.s0 && !d.getLsbD 0, s1 := s.settings.notices.s1 && !d.getLsbD 1,
      s2 := s.settings.notices.s2 && !d.getLsbD 2, s3 := s.settings.notices.s3 && !d.getLsbD 3 } } }) ∧
  (∀ (d : Half) (s : State), s.hostCanAct → exec (.streamStatus d) s = .next { s with
    hostReply := .written
    stream := { s.stream with
      refused := s.stream.refused && !d.getLsbD 8, dropped := s.stream.dropped && !d.getLsbD 9,
      emptyRead := s.stream.emptyRead && !d.getLsbD 10 } })

/-- HINT is asserted while a member of the host event set is set or true and enabled (R144, R146, R148), and LINT while
a member of the local event set is and is enabled in the mask (R149, R151); the summaries show exactly those members.
The other output lines follow the state: HREADY signals ready in ACTIVE and DORMANT and LPWR is asserted in DORMANT
(R160), LRST while MODULE_RESET is 1 (R171, R176), LBREQ outside RELEASED (R68), LURG from the expiry of the grant patience
to the end of the request (R76), and HWAIT while a block holds the host (R85); the beat presented is the first of the
transfer in flight that is not done, at its word address, with its LBE and LD (R65). -/
def Obligations.InterruptLinesShowEnabledMembers : Prop :=
  ∀ s : State, s.pins.pon = false →
    let room := if s.inb.state = .running then 32 - s.inb.fifo.length else 0
    let atEnd : Prop := ∃ m ∈ s.outb.marks.head?, s.outb.fifo = [] ∧ s.outb.consume = m
    let hostMember (k : Nat) : Prop := match k with
      | 0 => s.events.host.answer = true
      | 1 => s.events.host.attention = true
      | 2 => s.events.host.power = true
      | 3 => s.faults.queue ≠ []
      | 4 => s.events.notes ≠ []
      | 5 => s.inb.state = .running ∧ s.stream.inThreshold.toNat ≤ room
      | 6 => (s.outb.state = .running ∧ s.stream.outThreshold.toNat ≤ s.outb.fifo.length) ∨ atEnd
      | 7 => atEnd
      | 8 => s.settings.s4.accepted = 2#4 ∧ s.pins.latn = true
      | _ => False
    let localMember (k : Nat) : Prop := match k with
      | 0 => s.events.loc.attention = true
      | 1 => s.events.loc.quiesce = true
      | 2 => s.events.loc.cancel = true
      | 3 => s.events.loc.wake = true
      | 4 => s.events.loc.grantSlow = true
      | 5 => s.events.loc.table = true
      | 6 => s.events.loc.markTaken = true
      | 7 => s.events.loc.datapathDone = true
      | 8 => s.settings.proposals ≠ []
      | 9 => s.settings.notices.s0 = true ∨ s.settings.notices.s1 = true ∨ s.settings.notices.s2 = true ∨
          s.settings.notices.s3 = true
      | 10 => s.faults.queue ≠ []
      | 11 => ∃ b ∈ s.inb.boundaries.head?, b.visible = true
      | _ => False
    (s.hint = true ↔ ∃ k, hostMember k ∧ s.settings.eventEnable.getLsbD k = true) ∧
    (s.lint = true ↔ ∃ k, localMember k ∧ s.events.mask.getLsbD k = true) ∧
    (∀ k, (hostRegisterRead s 0x10#6 { hlb := true, hub := true }).getLsbD k = true ↔ hostMember k) ∧
    (∀ k, (hostRegisterRead s 0x11#6 { hlb := true, hub := true }).getLsbD k = true ↔
      hostMember k ∧ s.settings.eventEnable.getLsbD k = true) ∧
    (s.settings.moduleReset = false →
      (∀ k < 12, (localRegisterRead s 0x0A#6).getLsbD k = true ↔ localMember k) ∧
      (∀ k, (localRegisterRead s 0x0C#6).getLsbD k = true ↔ localMember k ∧ s.events.mask.getLsbD k = true)) ∧
    (s.hready = true ↔ s.power.state = .active ∨ s.power.state = .dormant) ∧
    (s.lpwr = true ↔ s.power.state = .dormant) ∧
    (s.lrst = true ↔ s.settings.moduleReset = true) ∧
    (s.lbreq = true ↔ s.master.own ≠ .released) ∧
    (s.lurg = true ↔ ∃ since, s.master.own = .requesting since .expired) ∧
    (s.hwait = true ↔ s.pwq.held ≠ .none ∨ s.slot.record.isSome = true ∨ s.inb.held.isSome = true ∨
      s.outb.held.isSome = true) ∧
    (s.master.transfer = none → s.beatShown = none) ∧
    (∀ x b, s.master.transfer = some x → x.beats[x.beatsDone]? = some b → ∃ a : Word,
      s.beatShown = some (a, b.lbe, b.ld) ∧ a.toNat = (x.first.toNat + 4 * x.beatsDone) % 2 ^ 32)

/-- A post is appended to a list of fewer than 4 notes and refused with NOTE_FULL otherwise (R153); NOTE_POP (R154) and
FAULT_POP (R93) remove a head or answer EMPTY, FAULT_POP in the result of its own window; CLEAR_LOST sets the lost count
to 0 and answers OK in the local one (R94). -/
def Obligations.NotesAndFaultsPoppedAndPosted : Prop :=
  ∀ s : State,
    (∀ c : BitVec 16, s.localCanAct →
      (s.events.notes.length < 4 →
        exec (.notePost c) s = .next { s with events := { s.events with notes := s.events.notes ++ [c] } }) ∧
      (4 ≤ s.events.notes.length →
        exec (.notePost c) s = .next { s with events := { s.events with noteFull := true } }) ∧
      exec .noteFullClear s = .next { s with events := { s.events with noteFull := false } } ∧
      exec .clearLost s = .next { s with faults := { s.faults with lost := 0, localResult := .ok } }) ∧
    (s.hostCanAct →
      (s.events.notes = [] → exec .notePop s = .next { s with
        hostReply := .written, events := { s.events with noteResult := .empty } }) ∧
      (∀ head rest, s.events.notes = head :: rest → exec .notePop s = .next { s with
        hostReply := .written, events := { s.events with notes := rest, noteResult := .ok } })) ∧
    (∀ w, s.canCommand w →
      let popped (q : List FaultRecord) (r : Result) : State := match w with
        | .host => { s with hostReply := .written, faults := { s.faults with queue := q, hostResult := r } }
        | .loc => { s with faults := { s.faults with queue := q, localResult := r } }
      (s.faults.queue = [] → exec (.faultPop w) s = .next (popped [] .empty)) ∧
      (∀ head rest, s.faults.queue = head :: rest → exec (.faultPop w) s = .next (popped rest .ok)))

/-- The attention line by route and wake setting (R156, R167): an assertion latches local ATTENTION, under FORWARD host
ATTENTION too, and wakes a DORMANT module under WAKE_ON_ATTENTION; a deassertion changes the level only. That an assertion of a line
which is asserted already changes nothing rests on log entry 11 (DEDUCED). -/
def Obligations.AttentionLineByRoute : Prop :=
  ∀ s : State, s.pins.pon = false →
    let raised : State := { s with
      pins := { s.pins with latn := true }
      events := { s.events with
        host := { s.events.host with attention := s.events.host.attention || decide (s.settings.s4.accepted = 1#4) }
        loc := { s.events.loc with attention := true } } }
    exec .latnDeassertion s = .next { s with pins := { s.pins with latn := false } } ∧
    (s.pins.latn = true → exec .latnAssertion s = .next s) ∧
    (s.pins.latn = false →
      (s.power.state ≠ .dormant ∨ s.power.wakeOnAttention = false → exec .latnAssertion s = .next raised) ∧
      (s.power.state = .dormant → s.power.wakeOnAttention = true → exec .latnAssertion s = .next { raised with
        power := { s.power with state := .waking, cause := some .attention }
        settings := { s.settings with powerLow := false }
        events := { raised.events with
          host := { raised.events.host with power := true }, loc := { raised.events.loc with wake := true } } }))

/-! ### The local bus: ownership, grants, timers -/

/-- The arbiter (R77, R78): a stream channel goes first after eight aperture transfers in a row, then the Read Slot, then
the PWQ, then a stream channel; of two the one not served last. The run count and the last stream follow the choice. -/
def Obligations.ArbiterChoosesByR78 : Prop :=
  ∀ s : State, s.power.resetBusy = false →
    let read : Prop := ∃ r ∈ s.slot.record, r.phase = .busWait
    let write : Prop := ∃ r ∈ s.pwq.records.head?, r.inFlight = false
    let move : Prop := (s.inb.state = .running ∨ s.inb.state = .flushing) ∧ s.inb.fifo ≠ [] ∧
      s.inb.occupancy < ringSize s.inb.size ∧ (¬ ∃ x ∈ s.master.transfer, x.client = .inbound) ∧
      (16 ≤ s.inb.fifo.length ∨ (∃ b ∈ s.inb.boundaries, b.visible = false) ∨ s.inb.linger = .passed ∨
        s.inb.state = .flushing)
    let fetch : Prop := s.outb.state = .running ∧ (s.power.state = .active ∨ s.power.state = .quiescing) ∧
      (¬ ∃ x ∈ s.master.transfer, x.client = .outbound) ∧
      1 ≤ s.outb.fetchable ∧ min 16 s.outb.fetchable ≤ 32 - s.outb.fifo.length
    let counted (c : Client) (n : Nat) : Prop := s.account c = { s with master := { s.master with run := n } }
    (8 ≤ s.master.run → move ∨ fetch → ∃ c, s.choose = some c ∧ (c = .inbound ∨ c = .outbound)) ∧
    (s.master.run < 8 ∨ ¬ (move ∨ fetch) →
      (read → s.choose = some .readSlot) ∧
      (¬ read → write → s.choose = some .pwq) ∧
      (¬ read → ¬ write → move ∨ fetch → ∃ c, s.choose = some c ∧ (c = .inbound ∨ c = .outbound)) ∧
      (¬ read → ¬ write → ¬ (move ∨ fetch) → s.choose = none)) ∧
    (s.choose = some .inbound → move ∧ (fetch → s.master.lastStream = .outbound)) ∧
    (s.choose = some .outbound → fetch ∧ (move → s.master.lastStream = .inbound)) ∧
    (move ∨ fetch → counted .readSlot (s.master.run + 1) ∧ counted .pwq (s.master.run + 1)) ∧
    (¬ (move ∨ fetch) → counted .readSlot 0 ∧ counted .pwq 0) ∧
    s.account .inbound = { s with master := { s.master with run := 0, lastStream := .inbound } } ∧
    s.account .outbound = { s with master := { s.master with run := 0, lastStream := .outbound } }

/-- LBGNT asserted (R70, R74): REQUESTING takes the bus and issues the chosen client's transfer (R35, R48, R64, R112,
R117), the only one when LYLD is honoured; a withdrawn grant is given back; in any other state only the level changes. An
issue in any other event is the same: it neither reads nor changes the ownership state and the lines. -/
def Obligations.GrantIssuesTheChosenTransfer : Prop :=
  (∀ (c : Client) (o : Ownership) (p : Pins) (s : State),
    State.issue c { s with pins := p, master := { s.master with own := o } } =
      { State.issue c s with pins := p, master := { (State.issue c s).master with own := o } }) ∧
  ∀ s : State, s.pins.pon = false →
    let level : State := { s with pins := { s.pins with lbgnt := true } }
    let shape (c : Client) (k : TransferKind) (e : Option EntryIdx) (first : Word) (beats : List Beat)
        (len skip : Nat) : Transfer :=
      { client := c, kind := k, entry := e, first := first, beats := beats, beatsDone := 0, readData := [],
        discard := false, beatTimer := { start := s.now, limit := s.master.ackLimit.toNat }, runLen := len,
        runSkip := skip }
    (s.settledLaw → (∀ n p, s.master.own ≠ .requesting n p) → s.master.own ≠ .yielding .withdrawn →
      exec .lbgntAsserted s = .next level) ∧
    (s.master.own = .yielding .withdrawn → exec .lbgntAsserted s =
      .next { level with master := { s.master with own := .transferring } }) ∧
    (∀ n p, s.master.own = .requesting n p →
      (s.anyEligible = false → exec .lbgntAsserted s =
        .next { level with master := { s.master with own := .released, releaseMark := some s.now } }) ∧
      (∀ c, s.choose = some c → ∃ t, exec .lbgntAsserted s = .next t ∧
        { t.master with transfer := s.master.transfer } = { (s.account c).master with
          own := if s.pins.lyld = true ∧ s.master.yieldHonor = true then .yielding .yielded else .transferring } ∧
        t = State.issue c { level with master := { s.master with
          own := if s.pins.lyld = true ∧ s.master.yieldHonor = true then .yielding .yielded else .transferring } } ∧
        (∀ r rest, c = .pwq → s.pwq.records = r :: rest →
          t.master.transfer = some (shape .pwq .singleWrite (some r.entry) r.word
            [{ lbe := r.mask, ld := r.data }] 0 0) ∧
          t = { level with master := t.master,
                           pwq := { s.pwq with records := { r with inFlight := true } :: rest } }) ∧
        (∀ r, c = .readSlot → s.slot.record = some r → r.kind = .single →
          t.master.transfer = some (shape .readSlot .singleRead (some r.entry) r.word
            [{ lbe := r.lanes.mask, ld := 0 }] 0 0) ∧
          t = { level with master := t.master,
                           slot := { s.slot with record := some { r with phase := .inFlight } } }) ∧
        (∀ r, c = .readSlot → s.slot.record = some r → r.kind = .line → ∃ i : LineIdx,
          (s.lineset.line0 = .invalid → i = 0) ∧
          (s.lineset.line0 ≠ .invalid → s.lineset.line1 = .invalid → i = 1) ∧
          (∀ e0 a0 d0 t0 e1 a1 d1 t1, s.lineset.line0 = .valid e0 a0 d0 t0 → s.lineset.line1 = .valid e1 a1 d1 t1 →
            i = if t1 < t0 then 1 else 0) ∧
          t.master.transfer = some (shape .readSlot .lineFill (some r.entry) (lineAddr r.word)
            (List.replicate 8 { lbe := 0xF#4, ld := 0 }) 0 0) ∧
          t = { level with
            master := t.master
            slot := { s.slot with record := some { r with phase := .inFlight, line := some i } }
            lineset := s.lineset.setLine i (.filling false r.entry (lineAddr r.word)) }) ∧
        (c = .inbound →
          let a := ringAddr s.inb.base (ringSize s.inb.size) s.inb.produce
          let len := min s.inb.fifo.length (min 16 (min (ringSize s.inb.size - s.inb.occupancy)
            (min (ringSize s.inb.size - s.inb.produce % ringSize s.inb.size) (16 - a.toNat % 4))))
          t.master.transfer = some (shape .inbound .streamMove none (wordOf a)
            (runBeats (a.toNat % 4) (s.inb.fifo.take len)) len (a.toNat % 4)) ∧
          t = { level with master := t.master }) ∧
        (c = .outbound →
          let a := ringAddr s.outb.base (ringSize s.outb.size) s.outb.fetch
          let len := min 16 (min (32 - s.outb.fifo.length) (min s.outb.fetchable
            (min (ringSize s.outb.size - s.outb.fetch % ringSize s.outb.size) (16 - a.toNat % 4))))
          t.master.transfer = some (shape .outbound .streamFetch none (wordOf a)
            (runBeats (a.toNat % 4) (List.replicate len 0#8)) len (a.toNat % 4)) ∧
          t = { level with master := t.master, outb := { s.outb with fetchVoid := false } })))

/-- A withdrawal of LBGNT (R74), an assertion or deassertion of LYLD and a write of YIELD_HONOR (R73), by ownership
state; that a write of 0 gives back the yield of a transfer that a module reset discarded is the model's choice (log
entry 23). -/
def Obligations.LinesTakenByOwnershipState : Prop :=
  ∀ s : State,
    let own (t : State) (o : Ownership) : State := { t with master := { t.master with own := o } }
    let freed (t : State) : State :=
      { t with master := { t.master with own := .released, releaseMark := some s.now } }
    let stays : Prop := s.master.own = .released ∨ (∃ n p, s.master.own = .requesting n p)
    let lost : State := { s with pins := { s.pins with lbgnt := false } }
    let asked : State := { s with pins := { s.pins with lyld := true } }
    let honor (v : Bool) : State := { s with master := { s.master with yieldHonor := v } }
    let yields (i : Instr) (t : State) : Prop :=
      (s.master.own = .transferring ∨ s.master.own = .yielding .withdrawn →
        exec i s = .next (own t (.yielding .yielded))) ∧
      (∀ h, s.master.own = .holding h → exec i s = .next (freed t)) ∧
      (stays ∨ s.master.own = .yielding .yielded → exec i s = .next t)
    (s.pins.pon = false →
      (s.master.own = .transferring → exec .lbgntWithdrawal s = .next (own lost (.yielding .withdrawn))) ∧
      (∀ h, s.master.own = .holding h → exec .lbgntWithdrawal s = .next (freed lost)) ∧
      (stays ∨ (∃ w, s.master.own = .yielding w) → exec .lbgntWithdrawal s = .next lost) ∧
      (s.master.yieldHonor = true → yields .lyldAsserted asked) ∧
      (s.master.yieldHonor = false → exec .lyldAsserted s = .next asked) ∧
      exec .lyldDeasserted s = .next (State.poll { s with pins := { s.pins with lyld := false } })) ∧
    (s.localCanAct →
      (s.pins.lyld = true → yields (.yieldHonor true) (honor true)) ∧
      (s.pins.lyld = false → exec (.yieldHonor true) s = .next (honor true)) ∧
      (s.master.own = .yielding .yielded → exec (.yieldHonor false) s =
        .next (own (honor false) (if s.pins.lbgnt then .transferring else .yielding .withdrawn))) ∧
      (s.master.own ≠ .yielding .yielded → exec (.yieldHonor false) s = .next (honor false).poll))

/-- The bus timers: a write of GRANT_PATIENCE and its expiry (R76), HOLD_EXPIRY (R72), LINGER_EXPIRY (R111) and
REQUEST_BEGIN (R69). The moment of an expiry is at least its limit after its start (log entry 2). -/
def Obligations.BusTimersAndTheirExpiries : Prop :=
  ∀ (v : BitVec 8) (s : State),
    let request (t : State) (n : Nat) (p : Patience) : State :=
      { t with master := { t.master with own := .requesting n p } }
    let slow (t : State) : State := { t with events := { t.events with loc := { t.events.loc with grantSlow := true } } }
    let stored : State := { s with master := { s.master with grantPatience := v } }
    let begun : State := request s s.now (if s.master.grantPatience = 0#8 then .stopped else .running)
    (s.localCanAct →
      ((∀ n p, s.master.own ≠ .requesting n p) → exec (.grantPatience v) s = .next stored) ∧
      (∀ n, s.master.own = .requesting n .expired → exec (.grantPatience v) s = .next stored) ∧
      (∀ n p, s.master.own = .requesting n p → p ≠ .expired →
        (v = 0#8 → exec (.grantPatience v) s = .next (request stored n .stopped)) ∧
        (v ≠ 0#8 → v.toNat ≤ s.now - n → exec (.grantPatience v) s = .next (slow (request stored n .expired))) ∧
        (v ≠ 0#8 → s.now - n < v.toNat → exec (.grantPatience v) s = .next (request stored n .running)))) ∧
    (s.pins.pon = false →
      (∀ n, s.master.own = .requesting n .running → exec .grantPatienceExpiry s = .next (slow (request
        { s with now := max s.now (n + s.master.grantPatience.toNat) } n .expired))) ∧
      ((∀ n, s.master.own ≠ .requesting n .running) → exec .grantPatienceExpiry s = .next s) ∧
      (∀ t, s.master.own = .holding t → exec .holdExpiry s = .next { s with
        now := max s.now (t.start + t.limit)
        master := { s.master with own := .released, releaseMark := some (max s.now (t.start + t.limit)) } }) ∧
      ((∀ t, s.master.own ≠ .holding t) → exec .holdExpiry s = .next s) ∧
      (∀ n, s.inb.linger = .running n → exec .lingerExpiry s = .next (State.poll { s with
        now := max s.now (n + 8), inb := { s.inb with linger := .passed } })) ∧
      ((∀ n, s.inb.linger ≠ .running n) → exec .lingerExpiry s = .next s) ∧
      (s.master.own = .released → s.anyEligible = true → s.yieldAsked = false →
        ∃ t, exec .requestBegin s = .next (if s.pins.lbgnt then State.takeGrant t else t) ∧
        (∀ m, s.master.releaseMark = some m → t = { request begun (max s.now (m + 1))
            (if s.master.grantPatience = 0#8 then .stopped else .running) with now := max s.now (m + 1) }) ∧
        (s.master.releaseMark = none → t = begun)) ∧
      (s.master.own ≠ .released ∨ s.anyEligible = false ∨ s.yieldAsked = true →
        exec .requestBegin s = .next s))

/-- INVALIDATE_LINES strikes both lines (R54). A write of FRESHNESS empties the VALID lines already at or past it, and
a VALID line's expiry empties that line unless FRESHNESS is 0 (R56). The moment of an expiry is at least its limit
after its start (log entry 2). -/
def Obligations.LineCommandsAndFreshness : Prop :=
  ∀ (v : BitVec 8) (i : LineIdx) (s : State),
    let aged (l : Line) : Line := match l with
      | .valid e a d t => if v ≠ 0#8 ∧ v.toNat ≤ s.now - t then .invalid else .valid e a d t
      | .filling b e a => .filling b e a
      | .invalid => .invalid
    let struck (l : Line) : Line := match l with
      | .valid _ _ _ _ => .invalid
      | .filling _ e a => .filling true e a
      | .invalid => .invalid
    (s.localCanAct →
      exec .invalidateLines s = .next { s with lineset := { s.lineset with
        line0 := struck s.lineset.line0, line1 := struck s.lineset.line1, result := .ok } } ∧
      exec (.freshness v) s = .next { s with lineset := { s.lineset with
        line0 := aged s.lineset.line0, line1 := aged s.lineset.line1, freshness := v } }) ∧
    (s.pins.pon = false →
      (∀ e a d t, s.lineset.line i = .valid e a d t → s.lineset.freshness ≠ 0#8 →
        exec (.freshnessExpiry i) s = .next (State.poll { s with
          now := max s.now (t + s.lineset.freshness.toNat)
          lineset := if i = 0 then { s.lineset with line0 := .invalid } else { s.lineset with line1 := .invalid } })) ∧
      (s.lineset.freshness = 0#8 ∨ (∀ e a d t, s.lineset.line i ≠ .valid e a d t) →
        exec (.freshnessExpiry i) s = .next s))

/-! ### The local bus: beats and the ends of transfers -/

/-- The bus after a transfer that was not cut off (R71, R75): by ownership state, the honoured LYLD, the clients then
eligible and the hold. And the bus at the end of any other event that may change who is eligible (`poll`, R69, R70,
R72): from RELEASED a request begins, and takes an LBGNT found asserted; a request stands, takes LBGNT, or ends with the
release mark set when no client is eligible; from a hold the chosen client's transfer is issued; else nothing. -/
def Obligations.BusSettlesAfterATransfer : Prop :=
  (∀ s : State,
    let own (o : Ownership) : State := { s with master := { s.master with own := o } }
    let yield : Prop := s.pins.lyld = true ∧ s.master.yieldHonor = true
    let begins : Prop := s.anyEligible = true ∧ ¬ yield ∧ ∀ m ∈ s.master.releaseMark, m < s.now
    (s.master.own = .released →
      (begins → s.pins.lbgnt = false → s.poll =
        own (.requesting s.now (if s.master.grantPatience = 0#8 then .stopped else .running))) ∧
      (begins → s.pins.lbgnt = true → ∃ c, s.choose = some c ∧ s.poll = State.issue c (own .transferring)) ∧
      (¬ begins → s.poll = s)) ∧
    (∀ n p, s.master.own = .requesting n p →
      (s.anyEligible = false →
        s.poll = { s with master := { s.master with own := .released, releaseMark := some s.now } }) ∧
      (s.anyEligible = true → s.pins.lbgnt = true → ∃ c, s.choose = some c ∧
        (yield → s.poll = State.issue c (own (.yielding .yielded))) ∧
        (¬ yield → s.poll = State.issue c (own .transferring))) ∧
      (s.anyEligible = true → s.pins.lbgnt = false → s.poll = s)) ∧
    (∀ h, s.master.own = .holding h →
      (∀ c, s.choose = some c → s.poll = State.issue c (own .transferring)) ∧
      (s.choose = none → s.poll = s)) ∧
    (s.master.own = .transferring ∨ (∃ w, s.master.own = .yielding w) → s.poll = s)) ∧
  ∀ (hold : Nat) (s : State),
    let own (o : Ownership) : State := { s with master := { s.master with own := o } }
    let freed : State := { s with master := { s.master with own := .released, releaseMark := some s.now } }
    let yield : Prop := s.pins.lyld = true ∧ s.master.yieldHonor = true
    (s.master.own = .transferring →
      (yield → s.settle hold = freed) ∧
      (∀ c, ¬ yield → s.choose = some c → s.settle hold = State.issue c s) ∧
      (¬ yield → s.choose = none → 0 < hold → s.settle hold = own (.holding { start := s.now, limit := hold })) ∧
      (¬ yield → s.choose = none → hold = 0 → s.settle hold = freed)) ∧
    (s.master.own = .yielding .yielded → s.settle hold = freed) ∧
    (s.master.own = .yielding .withdrawn →
      (s.anyEligible = true → s.settle hold =
        own (.requesting s.now (if s.master.grantPatience = 0#8 then .stopped else .running))) ∧
      (s.anyEligible = false → s.settle hold = freed))

/-- A LACK before the last beat presents the next one, timed with the ACK_LIMIT in force (R65, R66); with no transfer
the responses and the expiry are ignored; a discarded transfer hands its result to no client (R67) and lets a datapath
reset in progress be carried out (R172). The moment of an expiry is at least its limit after its start (log entry 2).
-/
def Obligations.BeatsAndDiscardedTransfers : Prop :=
  ∀ (ld : Word) (s : State), s.pins.pon = false →
    (s.master.transfer = none → exec (.lack ld) s = .next s ∧ exec .lerr s = .next s ∧
      exec .ackLimitExpiry s = .next s) ∧
    (∀ x, s.master.transfer = some x →
      let timer : Timer := { start := s.now, limit := s.master.ackLimit.toNat }
      let ended (t : State) : State := { t with master := { t.master with transfer := none } }
      let late : State := { s with now := max s.now (x.beatTimer.start + x.beatTimer.limit) }
      (x.beatsDone + 1 < x.beats.length →
        (x.kind = .singleWrite ∨ x.kind = .streamMove → exec (.lack ld) s = .next { s with master := { s.master with
          transfer := some { x with beatsDone := x.beatsDone + 1, beatTimer := timer } } }) ∧
        (x.kind = .singleRead ∨ x.kind = .lineFill ∨ x.kind = .streamFetch →
          exec (.lack ld) s = .next { s with master := { s.master with
            transfer := some { x with
              beatsDone := x.beatsDone + 1, readData := x.readData ++ [ld], beatTimer := timer } } })) ∧
      (x.discard = true → s.power.resetBusy = false →
        (x.beats.length ≤ x.beatsDone + 1 → exec (.lack ld) s = .next ((ended s).settle (s.transferHold x))) ∧
        exec .lerr s = .next ((ended s).settle (s.transferHold x)) ∧
        exec .ackLimitExpiry s = .next ((ended late).settle (s.transferHold x))) ∧
      (x.discard = true → s.power.resetBusy = true →
        (x.beats.length ≤ x.beatsDone + 1 → exec (.lack ld) s = .next (ended s).carryOut) ∧
        exec .lerr s = .next (ended s).carryOut ∧ exec .ackLimitExpiry s = .next (ended late).carryOut))

/-- The end of a PWQ record's transfer (R36, R37, R96, R97): on LACK the head leaves, and the last record of a
DRAINING entry empties it (R12); on LERR or the expiry the entry's other records leave too, one fault record counts
them, and the entry is suspended. A host on a leaving record is released; waiting work is then retried and tested
(R32, R47, R57). The retry ends a write whose entry has left OPEN (R14), lets it in by R29 and R30, or leaves it; a
suspension answers a read in ORDER_WAIT with filler (R57); the test answers a late hit (R52) or passes to BUS_WAIT. The
moment of an expiry is at least its limit after its start (log entry 2). -/
def Obligations.WriteTransferEnds : Prop :=
  (∀ s : State, (∀ w, s.pwq.held ≠ .slotWait w) → s.retryWaiting = s) ∧
  (∀ (s : State) (w : HostWrite), s.pwq.held = .slotWait w →
    let ended : State := { s with pwq := { s.pwq with held := .none }, hostReply := .written, stall := none }
    let combines (t : WriteRecord) : Prop := w.combine = true ∧ w.strict = false ∧ t.entry = w.entry ∧
      t.word = w.word ∧ t.strict = false ∧ t.inFlight = false ∧ t.mask &&& w.mask = 0#4
    let entered (records : List WriteRecord) (seq : BitVec 8) : State :=
      State.slideAt w.entry w.word (State.strikeWord w.word (if w.strict
        then { s with pwq := { records := records, seq := seq, held := .recordWait s.pwq.seq } }
        else { ended with pwq := { records := records, seq := seq, held := .none } }))
    (s.live w.entry = none → s.retryWaiting = ended) ∧
    (∀ l, s.live w.entry = some l →
      (l.phase ≠ .opened →
        s.retryWaiting = ended.setLive w.entry (some { l with refused := satInc l.refused })) ∧
      (l.phase = .opened →
        (∀ older t, s.pwq.records = older ++ [t] → combines t → s.retryWaiting = entered
          (older ++ [{ t with mask := t.mask ||| w.mask, data := t.data ||| w.data }]) s.pwq.seq) ∧
        ((∀ older t, s.pwq.records = older ++ [t] → ¬ combines t) →
          (s.pwq.records.length < 16 → s.retryWaiting = entered
            (s.pwq.records ++ [{ seq := s.pwq.seq, entry := w.entry, hostAddr := w.hostAddr, word := w.word,
                                 mask := w.mask, data := w.data, strict := w.strict, inFlight := false }])
            (s.pwq.seq + 1)) ∧
          (16 ≤ s.pwq.records.length → s.retryWaiting = s))))) ∧
  (∀ (e : EntryIdx) (s : State),
    ((∀ r ∈ s.slot.record, r.phase = .orderWait → r.entry ≠ e) → s.fillSuspended e = s) ∧
    (∀ r, s.slot.record = some r → r.phase = .orderWait → r.entry = e → s.fillSuspended e =
      { s with slot := { s.slot with record := none }, hostReply := .read 0xFFFF#16, stall := none })) ∧
  (∀ s : State,
    let ordered : Prop := s.pwq.records = [] ∧ s.slot.orphan = none
    ((∀ r ∈ s.slot.record, ¬ (r.phase = .orderWait ∧ ordered)) → s.testOrder = s) ∧
    (∀ r, s.slot.record = some r → r.phase = .orderWait → ordered →
      let mayHit : Prop := r.kind = .line ∧ s.settings.s7.accepted = 1#4
      let holdsIt (i : LineIdx) : Prop :=
        ∃ d t, s.lineset.line i = .valid r.entry (r.word &&& 0xFFFFFFE0#32) d t
      (∀ i d t, mayHit → s.lineset.line i = .valid r.entry (r.word &&& 0xFFFFFFE0#32) d t →
        (i = 1 → ¬ holdsIt 0) → s.testOrder = State.slideAt r.entry r.word { s with
          slot := { s.slot with record := none }
          hostReply := .read (r.lanes.answer (d.getD ((r.word.toNat % 32) / 4) 0))
          stall := none }) ∧
      (¬ mayHit ∨ ¬ (holdsIt 0 ∨ holdsIt 1) → s.testOrder =
        { s with slot := { s.slot with record := some { r with phase := .busWait } } }))) ∧
  ∀ (ld : Word) (s : State) (x : Transfer) (r : WriteRecord) (rest : List WriteRecord) (l : LiveEntry),
    s.pins.pon = false → s.power.resetBusy = false → s.master.transfer = some x → x.client = .pwq →
    x.discard = false → s.pwq.records = r :: rest → s.live r.entry = some l → l.phase ≠ .suspended →
    let hold := s.transferHold x
    let tabled : Events := { s.events with loc := { s.events.loc with table := true } }
    let others := rest.filter (fun q => q.entry ≠ r.entry)
    let siblings := rest.filter (fun q => q.entry = r.entry)
    let released (t : State) (p : Prop) : Prop :=
      (p → t.pwq.held = .none ∧ t.hostReply = .written ∧ t.stall = none) ∧
      (¬ p → t.pwq.held = s.pwq.held ∧ t.hostReply = s.hostReply ∧ t.stall = s.stall)
    let rest_of (t : State) : Prop :=
      t.master = { s.master with transfer := none } ∧ t.pwq.seq = s.pwq.seq ∧
      t.lineset.freshness = s.lineset.freshness ∧ t.lineset.result = s.lineset.result ∧
      (∀ f, f ≠ r.entry → t.table.entries[f] = s.table.entries[f]) ∧
      (t.table.entries[r.entry]).editable = (s.table.entries[r.entry]).editable ∧
      { t with
        table := { t.table with entries := s.table.entries }
        pwq := s.pwq, lineset := s.lineset, master := s.master, stall := s.stall, faults := s.faults
        events := s.events, now := s.now, hostReply := s.hostReply } = s
    let failed (i : Instr) (k : FaultKind) (now : Nat) : Prop :=
      ∃ t : State, exec i s = .next ((State.testOrder (if l.phase = .opened
          then State.fillSuspended r.entry (State.retryWaiting t) else State.retryWaiting t)).settle hold) ∧
        t.now = now ∧ t.pwq.records = others ∧ rest_of t ∧ t.events = tabled ∧
        t.faults = (State.fault {
          kind := k, origin := if r.strict then .strictWrite else .postedWrite, direction := .write,
          entry := some r.entry, hostAddr := some r.hostAddr, localAddr := some r.word, seq := some r.seq,
          dropped := some (BitVec.ofNat 4 siblings.length), inFlight := none } s).faults ∧
        (l.phase = .opened → t.live r.entry = some { l with phase := .suspended }) ∧
        (l.phase = .draining → t.live r.entry = none) ∧
        (∀ i, t.lineset.line i = if (s.lineset.line i).entry? = some r.entry then (s.lineset.line i).strike
          else s.lineset.line i) ∧
        released t (∃ q ∈ r.seq :: siblings.map (fun q => q.seq), s.pwq.held = .recordWait q)
    (x.beats.length ≤ x.beatsDone + 1 → ∃ t : State,
      exec (.lack ld) s = .next ((State.testOrder (State.retryWaiting t)).settle hold) ∧
      t.now = s.now ∧ t.pwq.records = rest ∧ rest_of t ∧ t.faults = s.faults ∧ t.lineset = s.lineset ∧
      (l.phase = .draining → (∀ q ∈ rest, q.entry ≠ r.entry) → t.live r.entry = none ∧ t.events = tabled) ∧
      (l.phase = .opened ∨ (∃ q ∈ rest, q.entry = r.entry) → t.live r.entry = some l ∧ t.events = s.events) ∧
      released t (s.pwq.held = .recordWait r.seq)) ∧
    failed .lerr .localError s.now ∧
    failed .ackLimitExpiry .localTimeout (max s.now (x.beatTimer.start + x.beatTimer.limit))

/-- The end of a read's transfer: the host is answered from the word it asked for, a fill's line becomes VALID unless
spoiled, and the entry may slide (R49, R50); a failure answers filler, empties the line and makes a fault record
(R51); an orphan's end answers no one, and a waiting read is tested (R59). The moment of an expiry is at least its
limit after its start (log entry 2). -/
def Obligations.ReadTransferEnds : Prop :=
  ∀ (ld : Word) (s : State) (x : Transfer),
    s.pins.pon = false → s.power.resetBusy = false → s.master.transfer = some x → x.client = .readSlot →
    x.discard = false → x.kind = .singleRead ∨ x.kind = .lineFill →
    let hold := s.transferHold x
    let words := x.readData ++ [ld]
    let ended : State := { s with master := { s.master with transfer := none } }
    let late : State := { ended with now := max s.now (x.beatTimer.start + x.beatTimer.limit) }
    let filled (i : Option LineIdx) : LineSet := match i with
      | none => s.lineset
      | some i => s.lineset.setLine i (match s.lineset.line i with
        | .filling true _ _ => .invalid
        | .filling false e a => .valid e a words s.now
        | other => other)
    let dropped (i : Option LineIdx) : LineSet := match i with
      | none => s.lineset
      | some i => s.lineset.setLine i .invalid
    (∀ r, s.slot.record = some r → r.phase = .inFlight →
      let word := match r.kind with
        | .single => words.getD 0 0
        | .line => words.getD ((r.word.toNat % 32) / 4) 0
      let failed (t : State) (k : FaultKind) : State := State.fault {
          kind := k, origin := if r.kind = .single then .hostRead else .lineFill, direction := .read,
          entry := some r.entry, hostAddr := some r.hostAddr,
          localAddr := some (if r.kind = .single then r.word else r.word &&& 0xFFFFFFE0#32), seq := none,
          dropped := none, inFlight := none }
        { t with
          slot := { s.slot with record := none }, lineset := dropped r.line, hostReply := .read 0xFFFF#16
          stall := none }
      (x.beats.length ≤ x.beatsDone + 1 → exec (.lack ld) s = .next ((State.slideAt r.entry r.word { ended with
        slot := { s.slot with record := none }, lineset := filled r.line, hostReply := .read (r.lanes.answer word)
        stall := none }).settle hold)) ∧
      exec .lerr s = .next ((failed ended .localError).settle hold) ∧
      exec .ackLimitExpiry s = .next ((failed late .localTimeout).settle hold)) ∧
    (∀ o, s.slot.orphan = some o → (∀ r ∈ s.slot.record, r.phase ≠ .inFlight) →
      let failed (t : State) (k : FaultKind) : State := State.testOrder (State.fault {
          kind := k, origin := if o.kind = .single then .hostRead else .lineFill, direction := .read,
          entry := some o.entry, hostAddr := none, localAddr := some x.first, seq := none, dropped := none,
          inFlight := none }
        { t with slot := { s.slot with orphan := none }, lineset := dropped o.line })
      (x.beats.length ≤ x.beatsDone + 1 → exec (.lack ld) s = .next ((State.testOrder { ended with
        slot := { s.slot with orphan := none }, lineset := filled o.line }).settle hold)) ∧
      exec .lerr s = .next ((failed ended .localError).settle hold) ∧
      exec .ackLimitExpiry s = .next ((failed late .localTimeout).settle hold))

/-- The end of a move (R110, R111, R113, R115): the run leaves the FIFO, IN_PRODUCE advances, boundaries reached
become VISIBLE, lines over its words are struck, a held write is retried and a drained FLUSHING channel is OFF; a
failure HALTs the channel. The end of a fetch (R118, R120): its bytes join the FIFO unless it is void; a failure HALTs
the channel. The retry lets in a held write whose bytes all fit (R109, R110, R111); a struck line is INVALID if VALID and
spoiled if FILLING (R54). The moment of an expiry is at least its limit after its start (log entry 2). -/
def Obligations.StreamTransferEnds : Prop :=
  (∀ s : State,
    ((∀ bytes ∈ s.inb.held, 32 - s.inb.fifo.length < bytes.length) → s.retryStream = s) ∧
    (∀ bytes, s.inb.held = some bytes → bytes.length ≤ 32 - s.inb.fifo.length → s.retryStream = { s with
      inb := { s.inb with
        held := none, fifo := s.inb.fifo ++ bytes, msgLen := s.inb.msgLen + bytes.length,
        linger := if s.inb.fifo = [] ∧ bytes ≠ [] then .running s.now else s.inb.linger }
      hostReply := .written
      stall := none })) ∧
  (∀ (words : List Word) (s : State),
    let hit (a : Word) : Bool := words.any (fun w => decide (a = w &&& 0xFFFFFFE0#32))
    let struck (l : Line) : Line := match l with
      | .invalid => .invalid
      | .filling b e a => .filling (b || hit a) e a
      | .valid e a d t => if hit a then .invalid else .valid e a d t
    s.strikeWords words = { s with lineset := { s.lineset with
      line0 := struck s.lineset.line0, line1 := struck s.lineset.line1 } }) ∧
  ∀ (ld : Word) (s : State) (x : Transfer),
    s.pins.pon = false → s.power.resetBusy = false → s.master.transfer = some x → x.discard = false →
    let hold := s.transferHold x
    let ended : State := { s with master := { s.master with transfer := none } }
    let late : State := { ended with now := max s.now (x.beatTimer.start + x.beatTimer.limit) }
    let written (n : Nat) : List Word := (List.range n).map (fun i => x.first + BitVec.ofNat 32 (4 * i))
    let record (o : FaultOrigin) (d : Direction) (k : FaultKind) : FaultRecord :=
      { kind := k, origin := o, direction := d, entry := none, hostAddr := none,
        localAddr := some (x.first + BitVec.ofNat 32 (4 * x.beatsDone)), seq := none, dropped := none,
        inFlight := none }
    (x.client = .inbound →
      let size := ringSize s.inb.size
      let tail := s.inb.fifo.drop x.runLen
      let halted (t : State) (k : FaultKind) : State := (State.fault (record .streamIn .write k)
        { t with
          inb := { s.inb with
            state := .halted, held := none, damaged := s.inb.damaged || s.inb.held.isSome }
          stream := { s.stream with refused := s.stream.refused || s.inb.held.isSome }
          hostReply := if s.inb.held.isSome then .written else s.hostReply
          stall := if s.inb.held.isSome then none else s.stall }).strikeWords (written x.beatsDone)
      (x.beats.length ≤ x.beatsDone + 1 → ∃ t : State,
        t = State.retryStream (State.strikeWords (written (x.beatsDone + 1)) { ended with inb := { s.inb with
          fifo := tail, produce := (s.inb.produce + x.runLen) % (2 * size),
          linger := if tail = [] then .stopped else s.inb.linger,
          boundaries := s.inb.boundaries.map (fun b => { b with
            visible := b.visible || decide (ringDist size s.inb.produce b.endPos ≤ x.runLen) }) } }) ∧
        (t.inb.state = .flushing ∧ t.inb.fifo = [] → exec (.lack ld) s = .next (State.settle hold { t with
          inb := { t.inb with state := .off, msgLen := 0, damaged := false } })) ∧
        (¬ (t.inb.state = .flushing ∧ t.inb.fifo = []) → exec (.lack ld) s = .next (t.settle hold))) ∧
      exec .lerr s = .next ((halted ended .localError).settle hold) ∧
      exec .ackLimitExpiry s = .next ((halted late .localTimeout).settle hold)) ∧
    (x.client = .outbound → x.kind = .streamFetch →
      let bytes := runOf x.runSkip x.runLen (x.readData ++ [ld])
      let halted (t : State) (k : FaultKind) : State := State.fault (record .streamOut .read k)
        (if s.outb.fetchVoid then t else { t with
          outb := { s.outb with state := .halted, held := none }
          stream := { s.stream with refused := s.stream.refused || s.outb.held.isSome }
          hostReply := if s.outb.held.isSome then .read 0xFFFF#16 else s.hostReply
          stall := if s.outb.held.isSome then none else s.stall })
      (x.beats.length ≤ x.beatsDone + 1 →
        (s.outb.fetchVoid = true → exec (.lack ld) s = .next (ended.settle hold)) ∧
        (s.outb.fetchVoid = false → exec (.lack ld) s = .next ((State.judgeRead { ended with outb := { s.outb with
          fifo := s.outb.fifo ++ bytes
          fetch := (s.outb.fetch + x.runLen) % (2 * ringSize s.outb.size) } }).settle hold))) ∧
      exec .lerr s = .next ((halted ended .localError).settle hold) ∧
      exec .ackLimitExpiry s = .next ((halted late .localTimeout).settle hold))

/-- The stall timer's expiry by holder (R41, R58, R86): the host is released, the holder ends its transaction and one
STALL record is made; the moment is at least the limit after the start (log entry 2). With no timer nothing changes. That
the newest record of a number is the one withdrawn rests on log entry 16 (DEDUCED), and that a withdrawal empties a
DRAINING entry also during a datapath reset on log entry 19 (DESIGN CHOICE). -/
def Obligations.StallExpiryByHolder : Prop :=
  ∀ s : State, s.pins.pon = false →
    (s.stall = none → exec .stallExpiry s = .next s) ∧
    (∀ h timer, s.stall = some { holder := h, timer := timer } →
      let freed (r : HostReply) : State :=
        { s with now := max s.now (timer.start + timer.limit), stall := none, hostReply := r }
      let stalled (o : FaultOrigin) (d : Direction) (flight : Bool) : FaultRecord :=
        { kind := .stall, origin := o, direction := d, entry := none, hostAddr := none, localAddr := none,
          seq := none, dropped := none, inFlight := some flight }
      let ends (f : FaultRecord) (t : State) : Prop := exec .stallExpiry s = .next (State.fault f t).poll
      (∀ w, h = .pwq → s.pwq.held = .slotWait w →
        ends { stalled (if w.strict then .strictWrite else .postedWrite) .write false with
            entry := some w.entry, hostAddr := some w.hostAddr, localAddr := some w.word }
          { freed .written with pwq := { s.pwq with held := .none } }) ∧
      (∀ q older r newer, h = .pwq → s.pwq.held = .recordWait q → s.pwq.records = older ++ r :: newer → r.seq = q →
        (∀ n ∈ newer, n.seq ≠ q) →
        let f : FaultRecord := { stalled .strictWrite .write r.inFlight with
          entry := some r.entry, hostAddr := some r.hostAddr, localAddr := some r.word, seq := some q }
        (r.inFlight = true → ends f { freed .written with pwq := { s.pwq with held := .none } }) ∧
        (r.inFlight = false → ends f (State.afterLeave r.entry
          { freed .written with pwq := { s.pwq with held := .none, records := older ++ newer } }))) ∧
      (∀ r, h = .readSlot → s.slot.record = some r →
        ends { stalled (if r.kind = .single then .hostRead else .lineFill) .read (decide (r.phase = .inFlight)) with
            entry := some r.entry, hostAddr := some r.hostAddr,
            localAddr := some (if r.kind = .single then r.word else r.word &&& 0xFFFFFFE0#32) }
          { freed (.read 0xFFFF#16) with slot := {
            record := none
            orphan := if r.phase = .inFlight then some { entry := r.entry, kind := r.kind, line := r.line }
              else s.slot.orphan } }) ∧
      (h = .inbound → s.inb.held.isSome = true →
        ends (stalled .streamIn .write false)
          { freed .written with inb := { s.inb with held := none, damaged := true } }) ∧
      (h = .outbound → s.outb.held.isSome = true →
        ends (stalled .streamOut .read false)
          { freed (.read 0xFFFF#16) with outb := { s.outb with held := none } }))

/-! ### The register windows -/

/-- A REGISTER_WRITE of a register or command that has a row of its own does what that row does, in every state. That
REGISTER_WRITE carries any window write, and the rows' operands, are the model's choice (log entry 7). A command register
written with NONE issues nothing and keeps its result, and an unnamed value answers BAD_FIELD, or BUSY where R5 and the
local stream commands answer it (R178; for DATAPATH_RESET log entry 15, DEDUCED); every write of POWER_CMD stores the
wake settings (R180); a zero to INDEX_REFUSED or NOTE_FULL leaves it (R180); a read-only register or an offset without
one ignores writes (R175, R176, R180). (Stored fields: StoredRegistersReadBack.) -/
def Obligations.RegisterWriteSpellsItsRow : Prop :=
  (∀ (a : RegWrite) (i : Instr) (s : State), a.row = some i → exec (.registerWrite a) s = exec i s) ∧
  (∀ (hd : Half) (s : State), s.hostCanAct →
    let code := hd.toNat % 16
    let writes (reg : BitVec 6) (t : State) : Prop :=
      exec (.registerWrite (.host reg { hlb := true, hub := true } hd)) s = .next t
    let done : State := { s with hostReply := .written }
    let commands : List (BitVec 6) := [0x12, 0x1D, 0x24, 0x36]
    let settings : List (BitVec 6) := [0x04, 0x05, 0x06, 0x07, 0x08, 0x09, 0x0A, 0x0B]
    let others : List (BitVec 6) := [0x10, 0x20, 0x21, 0x22, 0x23, 0x25, 0x30, 0x31, 0x34, 0x35]
    (code = 0 → ∀ reg ∈ commands, writes reg done) ∧
    (2 ≤ code → writes 0x12 { done with faults := { s.faults with hostResult := .badField } } ∧
      writes 0x1D { done with events := { s.events with noteResult := .badField } }) ∧
    (3 ≤ code → writes 0x36 { done with stream := { s.stream with hostResult := .badField } }) ∧
    (6 ≤ code → writes 0x24 { done with table := { s.table with
      hostResult := if s.power.resetBusy then .busy else .badField } }) ∧
    (∀ reg, reg ∉ commands ++ settings ++ others → writes reg done)) ∧
  (∀ (ld : Word) (s : State), s.localCanAct →
    let code := ld.toNat % 16
    let writes (reg : BitVec 6) (t : State) : Prop := exec (.registerWrite (.loc reg 0xF#4 ld)) s = .next t
    let commands : List (BitVec 6) := [0x03, 0x08, 0x0D, 0x14, 0x19, 0x27]
    let settings : List (BitVec 6) :=
      [0x09, 0x0B, 0x12, 0x13, 0x15, 0x1A, 0x1B, 0x1C, 0x1D, 0x1E, 0x1F, 0x20, 0x21, 0x23, 0x24]
    let others : List (BitVec 6) := [0x02, 0x04, 0x0A, 0x28, 0x2C, 0x2D]
    let power (r : Result) : State := { s with power := { s.power with
      wakeOnAccess := ld.getLsbD 16, wakeOnAttention := ld.getLsbD 17, result := r } }
    (code = 0 → writes 0x02 (power s.power.result) ∧ ∀ reg ∈ commands, writes reg s) ∧
    (5 ≤ code → writes 0x02 (power .badField)) ∧
    (2 ≤ code → writes 0x03 { s with power := { s.power with resetResult := .badField } } ∧
      writes 0x19 { s with lineset := { s.lineset with result := .badField } }) ∧
    (3 ≤ code → writes 0x08 { s with settings := { s.settings with answerResult := .badField } } ∧
      writes 0x0D { s with faults := { s.faults with localResult := .badField } }) ∧
    (6 ≤ code → writes 0x14 { s with table := { s.table with
      localResult := if s.power.resetBusy then .busy else .badField } }) ∧
    (9 ≤ code → writes 0x27 { s with stream := { s.stream with
      localResult := if s.power.resetBusy then .busy else .badField } }) ∧
    (ld.getLsbD 8 = false → writes 0x28 s ∧ writes 0x2D s) ∧
    (∀ reg, reg ∉ commands ++ settings ++ others → writes reg s))

/-- Stored registers read back as written, less the bits their layout does not store (R3, R4, R128, R151, R179): staging
records, View selections, EVENT_ENABLE, STALL_LIMIT, the local mask, ANSWER_LIMIT (R138), ACK_LIMIT, which a 0 leaves
(R66), and the thresholds, held in their ranges (R122). A write that does not drive the whole register is ignored (R175,
R176). Every other read of both windows shows its fields where Tables 10-1 to 10-7 place them: power, settings and their
status, command results (R178), the fault head with an absent field as 0 (R94), the note, proposal, boundary and mark
heads, which read 0 while there is none (R180), the Views (R4), stream status and levels (R122), and 0 where no register
lies; a host byte read shows its half and 0, and one without a strobe 0xFFFF (R175). (The event words:
InterruptLinesShowEnabledMembers.) -/
def Obligations.StoredRegistersReadBack : Prop :=
  (∀ (hd : Half) (ld : Word) (s : State),
    let both : Strobes := { hlb := true, hub := true }
    let hostReads (i : Instr) (reg : BitVec 6) (mask : Half) (same : State → Prop) : Prop :=
      ∃ t, exec i s = .next t ∧ hostRegisterRead t reg both = hd &&& mask ∧ t.hostReply = .written ∧ same t
    let localReads (i : Instr) (reg : BitVec 6) (mask : Word) (same : State → Prop) : Prop :=
      ∃ t, exec i s = .next t ∧ localRegisterRead t reg = ld &&& mask ∧ same t
    let hostWrite (reg : BitVec 6) : Instr := .registerWrite (.host reg both hd)
    let localWrite (reg : BitVec 6) : Instr := .registerWrite (.loc reg 0xF#4 ld)
    let hostStaging : List (BitVec 6 × Half) := [(0x20, 0xFFFF), (0x21, 0xFFFF), (0x22, 0x000F), (0x23, 0x7F7F)]
    let localStaging : List (BitVec 6 × Word) := [(0x12, 0xFF7FFFFF), (0x13, 0xFFFFF000)]
    (s.hostCanAct →
      (∀ p ∈ hostStaging, hostReads (hostWrite p.1) p.1 p.2 (fun t =>
        (∀ q ∈ hostStaging, q.1 ≠ p.1 → hostRegisterRead t q.1 both = hostRegisterRead s q.1 both) ∧
        { t with hostReply := s.hostReply, table := { t.table with hostStage := s.table.hostStage } } = s)) ∧
      hostReads (hostWrite 0x25) 0x25 7 (fun t =>
        { t with hostReply := s.hostReply, table := { t.table with hostView := s.table.hostView } } = s) ∧
      hostReads (.eventEnable (hd.setWidth 9)) 0x06 0x01FF (fun t => t.settings.notices.s2 = true ∧
        { t with hostReply := s.hostReply, settings := { t.settings with
          eventEnable := s.settings.eventEnable
          notices := { t.settings.notices with s2 := s.settings.notices.s2 } } } = s) ∧
      hostReads (.stallLimit (hd.setWidth 12)) 0x07 0x0FFF (fun t => t.settings.notices.s3 = true ∧
        { t with hostReply := s.hostReply, settings := { t.settings with
          stallLimit := s.settings.stallLimit
          notices := { t.settings.notices with s3 := s.settings.notices.s3 } } } = s) ∧
      (∃ v, exec (hostWrite 0x34) s =
          .next { s with hostReply := .written, stream := { s.stream with inThreshold := v } } ∧
        v.toNat = min 32 (max 2 (hd.toNat % 64))) ∧
      (∃ v, exec (hostWrite 0x35) s =
          .next { s with hostReply := .written, stream := { s.stream with outThreshold := v } } ∧
        v.toNat = min 32 (max 1 (hd.toNat % 64))) ∧
      (∀ reg st, bothStrobes st = false → reg ≠ 0x30#6 →
        exec (.registerWrite (.host reg st hd)) s = .next { s with hostReply := .written })) ∧
    (s.localCanAct →
      (∀ p ∈ localStaging, localReads (localWrite p.1) p.1 p.2 (fun t =>
        (∀ q ∈ localStaging, q.1 ≠ p.1 → localRegisterRead t q.1 = localRegisterRead s q.1) ∧
        { t with table := { t.table with localStage := s.table.localStage } } = s)) ∧
      localReads (localWrite 0x15) 0x15 7 (fun t =>
        { t with table := { t.table with localView := s.table.localView } } = s) ∧
      localReads (.localMask (ld.setWidth 12)) 0x0B 0xFFF (fun t =>
        { t with events := { t.events with mask := s.events.mask } } = s) ∧
      localReads (localWrite 0x09) 0x09 0xFF (fun t =>
        { t with settings := { t.settings with answerLimit := s.settings.answerLimit } } = s) ∧
      (ld.setWidth 8 ≠ 0#8 → localReads (localWrite 0x1B) 0x1B 0xFF (fun t =>
        { t with master := { t.master with ackLimit := s.master.ackLimit } } = s)) ∧
      (ld.setWidth 8 = 0#8 → exec (localWrite 0x1B) s = .next s) ∧
      (∀ reg lbe, lbe ≠ 0xF#4 → exec (.registerWrite (.loc reg lbe ld)) s = .next s))) ∧
  (∀ s : State,
    let both : Strobes := { hlb := true, hub := true }
    let mode (top : BitVec 1) (high : BitVec 3) (hold : BitVec 4) (slide swapped combine streaming strict : Bool)
        (access : BitVec 2) : Half :=
      top ++ high ++ hold ++ 0#1 ++ bit slide ++ bit swapped ++ bit combine ++ bit streaming ++ bit strict ++ access
    let staged (top : BitVec 1) (g : Staging) : Half :=
      mode top (BitVec.ofNat 3 g.target.val) g.hold g.slide g.swapped g.combine g.streaming g.strict g.access
    let viewed (e : Entry) (l : LiveEntry) : Half := mode (bit e.editable) (0#1 ++ l.phase.code) l.ap.hold l.ap.slide
      l.ap.swapped l.ap.combine l.ap.streaming l.ap.strict l.ap.access.code
    let info (f : FaultRecord) : BitVec 12 := bit (f.inFlight.getD false) ++ BitVec.ofNat 3 (f.entry.getD 0).val ++
      f.direction.code ++ f.origin.code ++ 0#1 ++ f.kind.code
    let present (f : FaultRecord) : BitVec 7 := bit f.inFlight.isSome ++ bit f.dropped.isSome ++ bit f.seq.isSome ++
      bit f.localAddr.isSome ++ bit f.hostAddr.isSome ++ bit f.entry.isSome ++ 1#1
    let room := if s.inb.state = .running ∨ s.inb.state = .flushing then 32 - s.inb.fifo.length else 0
    let atEnd : Bool := decide (s.outb.fifo = [] ∧ s.outb.marks.head? = some s.outb.consume)
    (s.pins.pon = false →
      let reads (reg : BitVec 6) (v : Half) : Prop := hostRegisterRead s reg both = v
      let result (r : Result) : Half := 0#3 ++ r.code ++ 0#8
      let e := s.table.entries[s.table.hostView]
      (∀ reg, reg ≠ 0x30#6 →
        hostRegisterRead s reg { hlb := true, hub := false } = hostRegisterRead s reg both &&& 0x00FF#16 ∧
        hostRegisterRead s reg { hlb := false, hub := true } = hostRegisterRead s reg both &&& 0xFF00#16 ∧
        hostRegisterRead s reg { hlb := false, hub := false } = 0xFFFF#16) ∧
      reads 0x02 (0#7 ++ bit s.power.resetBusy ++ 0#5 ++ s.power.state.code) ∧
      reads 0x04 (0#15 ++ bit s.settings.moduleReset) ∧ reads 0x05 (0#15 ++ bit s.settings.powerLow) ∧
      reads 0x06 (0#7 ++ s.settings.eventEnable) ∧ reads 0x07 (0#4 ++ s.settings.stallLimit) ∧
      (∀ p ∈ [(0x08#6, 0x0C#6, s.settings.s4), (0x09#6, 0x0D#6, s.settings.s5), (0x0A#6, 0x0E#6, s.settings.s6),
          (0x0B#6, 0x0F#6, s.settings.s7)],
        reads p.1 (0#12 ++ p.2.2.accepted) ∧
        reads p.2.1 (p.2.2.reason ++ 0#1 ++ p.2.2.outcome.code ++ p.2.2.serial)) ∧
      reads 0x12 (result s.faults.hostResult) ∧ reads 0x1D (result s.events.noteResult) ∧
      reads 0x24 (result s.table.hostResult) ∧ reads 0x36 (result s.stream.hostResult) ∧
      (s.faults.queue = [] → ∀ reg ∈ [0x13#6, 0x14#6, 0x15#6, 0x17#6, 0x18#6, 0x19#6, 0x1A#6], reads reg 0) ∧
      (∀ f rest, s.faults.queue = f :: rest →
        reads 0x13 (0#4 ++ info f) ∧ reads 0x14 (0#9 ++ present f) ∧
        reads 0x15 (0#4 ++ f.dropped.getD 0 ++ f.seq.getD 0) ∧
        reads 0x17 ((f.hostAddr.getD 0).extractLsb' 0 16) ∧ reads 0x18 (0#8 ++ (f.hostAddr.getD 0).extractLsb' 16 8) ∧
        reads 0x19 ((f.localAddr.getD 0).extractLsb' 0 16) ∧ reads 0x1A ((f.localAddr.getD 0).extractLsb' 16 16)) ∧
      (s.faults.queue.length < 8 →
        reads 0x16 (s.faults.lost ++ 0#5 ++ BitVec.ofNat 3 s.faults.queue.length)) ∧
      (s.events.notes = [] → reads 0x1B 0) ∧ (∀ n rest, s.events.notes = n :: rest → reads 0x1B n) ∧
      (s.events.notes.length < 8 → reads 0x1C
        (0#5 ++ BitVec.ofNat 3 s.events.notes.length ++ 0#7 ++ bit (decide (s.events.notes ≠ [])))) ∧
      reads 0x20 (s.table.hostStage.size ++ s.table.hostStage.page) ∧
      reads 0x21 (s.table.hostStage.base.extractLsb' 0 16) ∧
      reads 0x22 (0#12 ++ s.table.hostStage.base.extractLsb' 16 4) ∧ reads 0x23 (staged 0#1 s.table.hostStage) ∧
      reads 0x25 (0#13 ++ BitVec.ofNat 3 s.table.hostView.val) ∧
      (e.live = none → reads 0x29 (bit e.editable ++ 0#15) ∧
        ∀ reg ∈ [0x26#6, 0x27#6, 0x28#6, 0x2A#6, 0x2B#6], reads reg 0) ∧
      (∀ l, e.live = some l →
        reads 0x26 (l.ap.size ++ l.ap.page) ∧ reads 0x27 (l.ap.base.extractLsb' 0 16) ∧
        reads 0x28 (0#12 ++ l.ap.base.extractLsb' 16 4) ∧ reads 0x29 (viewed e l) ∧ reads 0x2A l.slideCount ∧
        reads 0x2B (0#8 ++ l.refused)) ∧
      reads 0x31 (0#5 ++ bit s.stream.emptyRead ++ bit s.stream.dropped ++ bit s.stream.refused ++ 0#2 ++
        bit s.inb.damaged ++ bit atEnd ++ s.outb.state.code ++ s.inb.state.code) ∧
      (s.outb.fifo.length < 64 →
        reads 0x32 (0#2 ++ BitVec.ofNat 6 s.outb.fifo.length ++ 0#2 ++ BitVec.ofNat 6 room)) ∧
      reads 0x33 (BitVec.ofNat 16 s.inb.msgLen) ∧
      reads 0x34 (0#10 ++ s.stream.inThreshold) ∧ reads 0x35 (0#10 ++ s.stream.outThreshold) ∧
      (∀ reg : BitVec 6, reg ∈ [0x03#6, 0x1E#6, 0x1F#6] ∨ (0x2C ≤ reg.toNat ∧ reg.toNat < 0x30) ∨ 0x37 ≤ reg.toNat → reads reg 0)) ∧
    (s.localCanAct →
      let reads (reg : BitVec 6) (v : Word) : Prop := localRegisterRead s reg = v
      let result (high : Half) (r : Result) : Word := high ++ 0#3 ++ r.code ++ 0#8
      let index (i : Nat) : Word := 0#15 ++ BitVec.ofNat 17 i
      let e := s.table.entries[s.table.localView]
      reads 0x01 (0#29 ++ s.power.state.code) ∧
      reads 0x02 (result (0#14 ++ bit s.power.wakeOnAttention ++ bit s.power.wakeOnAccess) s.power.result) ∧
      reads 0x03 (result (0#15 ++ bit s.power.resetBusy) s.power.resetResult) ∧
      reads 0x04 (0#28 ++ bit s.settings.notices.s3 ++ bit s.settings.notices.s2 ++ bit s.settings.notices.s1 ++
        bit s.settings.notices.s0) ∧
      reads 0x05 (0#4 ++ s.settings.stallLimit ++ 0#3 ++ s.settings.eventEnable ++ 0#2 ++ bit s.settings.powerLow ++
        bit s.settings.moduleReset) ∧
      reads 0x06 (0#25 ++ s.settings.s7.accepted.extractLsb' 0 1 ++ s.settings.s6.accepted.extractLsb' 0 1 ++
        s.settings.s5.accepted.extractLsb' 0 1 ++ 0#2 ++ s.settings.s4.accepted.extractLsb' 0 2) ∧
      (s.settings.proposals = [] → reads 0x07 0) ∧
      (∀ p rest, s.settings.proposals = p :: rest → s.settings.proposals.length < 8 → ∀ i : BitVec 3,
        negOf i = some p.setting → reads 0x07 (1#1 ++ 0#4 ++ BitVec.ofNat 3 s.settings.proposals.length ++ 0#4 ++
          p.value ++ p.serial ++ 0#5 ++ i)) ∧
      reads 0x08 (result 0 s.settings.answerResult) ∧ reads 0x09 (0#24 ++ s.settings.answerLimit) ∧
      reads 0x0A (0#9 ++ bit s.power.cause.isSome ++ s.power.cause.elim 0#2 WakeCause.code ++ 0#3 ++ bit s.pins.latn ++
        0#4 ++ s.localEventWord) ∧
      reads 0x0B (0#20 ++ s.events.mask) ∧ reads 0x0D (result 0 s.faults.localResult) ∧
      (s.faults.queue = [] → ∀ reg ∈ [0x0E#6, 0x10#6, 0x11#6], reads reg 0) ∧
      (∀ f rest, s.faults.queue = f :: rest →
        reads 0x0E (0#4 ++ f.dropped.getD 0 ++ f.seq.getD 0 ++ 0#4 ++ info f) ∧
        reads 0x10 (0#8 ++ f.hostAddr.getD 0) ∧ reads 0x11 (f.localAddr.getD 0)) ∧
      (s.faults.queue.length < 8 → reads 0x0F (0#8 ++ s.faults.lost ++ 0#5 ++
        BitVec.ofNat 3 s.faults.queue.length ++ 0#1 ++ s.faults.queue.head?.elim 0#7 present)) ∧
      reads 0x12 (staged (bit s.table.localStage.editable) s.table.localStage ++ s.table.localStage.size ++
        s.table.localStage.page) ∧
      reads 0x13 (s.table.localStage.base ++ 0#12) ∧ reads 0x14 (result 0 s.table.localResult) ∧
      reads 0x15 (0#29 ++ BitVec.ofNat 3 s.table.localView.val) ∧
      (e.live = none → reads 0x16 (bit e.editable ++ 0#31) ∧ reads 0x17 0 ∧ reads 0x18 0) ∧
      (∀ l, e.live = some l →
        reads 0x16 (viewed e l ++ l.ap.size ++ l.ap.page) ∧ reads 0x17 (l.ap.base ++ 0#12) ∧
        reads 0x18 (0#8 ++ l.refused ++ l.slideCount)) ∧
      reads 0x19 (result 0 s.lineset.result) ∧ reads 0x1A (0#24 ++ s.lineset.freshness) ∧
      reads 0x1B (0#24 ++ s.master.ackLimit) ∧ reads 0x1C (0#24 ++ s.master.grantPatience) ∧
      reads 0x1D (0#31 ++ bit s.master.yieldHonor) ∧
      reads 0x1E (s.inb.base ++ 0#8) ∧ reads 0x20 (s.outb.base ++ 0#8) ∧
      reads 0x1F (0#12 ++ s.inb.hold ++ 0#7 ++ bit s.inb.drop ++ 0#4 ++ s.inb.size) ∧
      reads 0x21 (0#12 ++ s.outb.hold ++ 0#12 ++ s.outb.size) ∧
      (∀ p ∈ [(0x22#6, s.inb.produce), (0x23#6, s.inb.consume), (0x24#6, s.outb.produce), (0x25#6, s.outb.fetch),
        (0x26#6, s.outb.consume)], p.2 < 2 ^ 17 → reads p.1 (index p.2)) ∧
      reads 0x27 (result 0 s.stream.localResult) ∧
      (s.outb.marks.length < 16 → s.inb.boundaries.length < 16 →
        reads 0x28 (0#4 ++ BitVec.ofNat 4 s.outb.marks.length ++ 0#4 ++ BitVec.ofNat 4 s.inb.boundaries.length ++ 0#7 ++
          bit s.stream.indexRefused ++ 0#2 ++ s.outb.state.code ++ 0#2 ++ s.inb.state.code)) ∧
      (s.inb.boundaries = [] → reads 0x29 0 ∧ reads 0x2A 0) ∧
      (∀ b rest, s.inb.boundaries = b :: rest → b.endPos < 2 ^ 17 → b.length < 2 ^ 16 →
        reads 0x29 (1#1 ++ 0#9 ++ bit b.visible ++ bit b.damaged ++ 0#3 ++ BitVec.ofNat 17 b.endPos) ∧
        reads 0x2A (0#16 ++ BitVec.ofNat 16 b.length)) ∧
      (s.outb.marks = [] → reads 0x2B 0) ∧
      (∀ m rest, s.outb.marks = m :: rest → m < 2 ^ 17 → reads 0x2B (1#1 ++ 0#14 ++ BitVec.ofNat 17 m)) ∧
      (s.events.notes.length < 8 →
        reads 0x2D (0#23 ++ bit s.events.noteFull ++ 0#5 ++ BitVec.ofNat 3 s.events.notes.length)) ∧
      (∀ reg : BitVec 6, reg = 0x2C#6 ∨ 0x2E ≤ reg.toNat → reads reg 0)) ∧
    [EntryPhase.opened, .suspended, .draining].map EntryPhase.code = [1, 2, 3] ∧
    [Access.readOnly, .writeOnly, .readWrite].map Access.code = [0, 1, 2] ∧
    [PowerState.starting, .active, .quiescing, .dormant, .waking].map PowerState.code = [0, 1, 2, 3, 4] ∧
    [InState.off, .running, .flushing, .halted].map InState.code = [0, 1, 2, 3] ∧
    [OutState.off, .running, .halted].map OutState.code = [0, 1, 3] ∧
    [WakeCause.hostRequest, .hostAccess, .attention, .loc].map WakeCause.code = [0, 1, 2, 3] ∧
    [FaultKind.unmapped, .denied, .stall, .localError, .localTimeout].map FaultKind.code = [1, 2, 3, 4, 5] ∧
    [FaultOrigin.hostAccess, .hostRead, .lineFill, .postedWrite, .strictWrite, .streamIn, .streamOut].map
      FaultOrigin.code = [1, 2, 3, 4, 5, 6, 7] ∧
    [Direction.read, .write].map Direction.code = [0, 1] ∧
    [SettingOutcome.none, .pending, .accepted, .rejected, .expired].map SettingOutcome.code = [0, 1, 2, 3, 4] ∧
    (List.range 8).map (fun i => negOf (BitVec.ofNat 3 i)) = [none, none, none, none, some .attentionRoute,
      some .streamEnable, some .tableRights, some .linePermit] ∧
    [Result.ok, .busy, .badField, .badState, .notPermitted, .overlap, .misaligned, .pendingWork, .empty, .stale, .notYet,
      .full, .notEnabled, .badRing, .badMark, .notRunning, .noMessage, .notReady, .notDrained].map Result.code =
      (List.range 19).map (BitVec.ofNat 5))

/-- The identification registers (R177): the part code and the revision in each window; writes to them are ignored. While
MODULE_RESET is 1 every register of the local window reads 0 and every local write, which is every local command, is
ignored (R93, R171, R176). (`hostReply` is the model's record of the answer, log entry 6.) -/
def Obligations.IdentificationRegisters : Prop :=
  ∀ s : State, s.pins.pon = false →
    let both : Strobes := { hlb := true, hub := true }
    hostRegisterRead s 0x00#6 both = 0x0A28#16 ∧ hostRegisterRead s 0x01#6 both = 1#16 ∧
    (s.settings.moduleReset = false → localRegisterRead s 0x00#6 = 0x00010A28#32) ∧
    (∀ (reg : BitVec 6) (hd : Half), s.hostHeld = false → reg = 0x00#6 ∨ reg = 0x01#6 →
      exec (.registerWrite (.host reg both hd)) s = .next { s with hostReply := .written }) ∧
    (∀ ld : Word, exec (.registerWrite (.loc 0x00#6 0xF#4 ld)) s = .next s) ∧
    (s.settings.moduleReset = true →
      let ignored (i : Instr) : Prop := exec i s = .next s
      (∀ reg, localRegisterRead s reg = 0#32) ∧ (∀ reg lbe ld, ignored (.registerWrite (.loc reg lbe ld))) ∧
      (∀ i ∈ [Instr.faultPop .loc, .clearLost, .openEntry .loc, .closeEntry .loc, .resumeEntry .loc, .retarget .loc,
        .setEditable .loc, .datapathReset, .invalidateLines, .indexRefusedClear, .inStart, .inStop, .inRestart, .inPop,
        .outStart, .outStop, .outRestart, .noteFullClear], ignored i) ∧
      (∀ a b, ∀ i ∈ [Instr.moduleReady a b, .remain a b, .dormantConfirm a b, .wake a b], ignored i) ∧
      (∀ i serial reason, ignored (.answerAccept i serial reason) ∧ ignored (.answerReject i serial reason)) ∧
      (∀ d, ignored (.notice d)) ∧ (∀ d, ignored (.localEvent d)) ∧ (∀ m, ignored (.localMask m)) ∧
      (∀ v, ignored (.freshness v)) ∧ (∀ v, ignored (.grantPatience v)) ∧ (∀ v, ignored (.yieldHonor v)) ∧
      (∀ r d, ignored (.ringSettingWrite r d)) ∧ (∀ d, ignored (.inConsume d)) ∧ (∀ d, ignored (.outProduce d)) ∧
      (∀ p, ignored (.outMark p)) ∧ (∀ c, ignored (.notePost c)))

/-! ### The laws of the device, kept by every step -/

/-- Every step keeps the queues, lists and counts within their bounds (R26, R78, R91, R115, R116, R152), the settings in
their ranges, the power state in agreement with S0 and S1, and the emptiness of a DORMANT bridge (R166). -/
def Obligations.StepKeepsBounds : Prop :=
  ∀ s t : State, s.capacityLaw ∧ s.registerLaw ∧ s.dormantLaw → step s = .next t →
    t.capacityLaw ∧ t.registerLaw ∧ t.dormantLaw

/-- Every step keeps the entries' host ranges apart (R6), every record in an OPEN or DRAINING entry (R26, R98), and an
entry DRAINING only while the queue holds a record of it (R12). -/
def Obligations.StepKeepsTableAndQueue : Prop :=
  ∀ s t : State, s.apertureLaw ∧ s.queueLaw → step s = .next t → t.apertureLaw ∧ t.queueLaw

/-- Every step keeps a read past ORDER_WAIT behind an empty queue (R45), and no line that is good holds a word that a PWQ
record targets (R53). -/
def Obligations.StepKeepsReadOrderAndLines : Prop :=
  ∀ s t : State, s.orderLaw ∧ s.lineLaw → step s = .next t → t.orderLaw ∧ t.lineLaw

/-- Every step keeps the ownership state, the lines of the bus, the transfer in flight and its client in agreement (R25,
R45, R63, R68, R73, R74, R172). -/
def Obligations.StepKeepsBusAndTransfers : Prop :=
  ∀ s t : State, s.busLaw ∧ s.transferLaw → step s = .next t → t.busLaw ∧ t.transferLaw

/-- After every step nothing that the bus should have begun or ended is left standing (R69, R70, R72). -/
def Obligations.StepKeepsBusSettled : Prop :=
  ∀ s t : State, s.busLaw ∧ s.settledLaw → step s = .next t → t.busLaw ∧ t.settledLaw

/-- Every step keeps at most one block holding the host, with HWAIT, the answer and the Stall Monitor in agreement, and
the channel that holds it RUNNING, or stopped during a datapath reset (R84, R85, R110, R120; log entry 21, DEDUCED). -/
def Obligations.StepKeepsTheHostInWait : Prop :=
  ∀ s t : State, s.hostLaw → step s = .next t → t.hostLaw ∧ (t.hwait = true ↔ t.hostReply = .held)

/-- Every step keeps the inbound ring's occupancy within its size, and the run of a move in flight in the FIFO and in the
ring's room (R104, R112). -/
def Obligations.StepKeepsTheInboundRing : Prop :=
  ∀ s t : State, s.inboundLaw → step s = .next t → t.inboundLaw

/-- Every step keeps the outbound indices in order, the FIFO equal in length to the bytes between OUT_CONSUME and
OUT_FETCH, and the marks in order within the produced data (R104, R116, R117, R118). -/
def Obligations.StepKeepsTheOutboundRing : Prop :=
  ∀ s t : State, s.outboundLaw → step s = .next t → t.outboundLaw

/-- Every step keeps at most one proposal per setting, PENDING exactly while it is held and with its serial, and every
accepted value in its range (R127, R131, R134). -/
def Obligations.StepKeepsProposals : Prop :=
  ∀ s t : State, s.proposalLaw → step s = .next t → t.proposalLaw
end

