-- ==== Sys2Proof/Laws/State.lean ====
section
/-! SUPPORT. One lemma for each field of State and each plain update, true by `rfl`: a proof that meets an update
rewrites by these and never unfolds the record. -/

namespace Sys2Proof.Machine

/-! #### reply -/

@[simp] theorem State.reply_table (r : HostReply) (s : State) : (s.reply r).table = s.table := rfl
@[simp] theorem State.reply_pwq (r : HostReply) (s : State) : (s.reply r).pwq = s.pwq := rfl
@[simp] theorem State.reply_slot (r : HostReply) (s : State) : (s.reply r).slot = s.slot := rfl
@[simp] theorem State.reply_lineset (r : HostReply) (s : State) : (s.reply r).lineset = s.lineset := rfl
@[simp] theorem State.reply_master (r : HostReply) (s : State) : (s.reply r).master = s.master := rfl
@[simp] theorem State.reply_stall (r : HostReply) (s : State) : (s.reply r).stall = s.stall := rfl
@[simp] theorem State.reply_faults (r : HostReply) (s : State) : (s.reply r).faults = s.faults := rfl
@[simp] theorem State.reply_inb (r : HostReply) (s : State) : (s.reply r).inb = s.inb := rfl
@[simp] theorem State.reply_outb (r : HostReply) (s : State) : (s.reply r).outb = s.outb := rfl
@[simp] theorem State.reply_stream (r : HostReply) (s : State) : (s.reply r).stream = s.stream := rfl
@[simp] theorem State.reply_settings (r : HostReply) (s : State) : (s.reply r).settings = s.settings := rfl
@[simp] theorem State.reply_events (r : HostReply) (s : State) : (s.reply r).events = s.events := rfl
@[simp] theorem State.reply_power (r : HostReply) (s : State) : (s.reply r).power = s.power := rfl
@[simp] theorem State.reply_pins (r : HostReply) (s : State) : (s.reply r).pins = s.pins := rfl
@[simp] theorem State.reply_now (r : HostReply) (s : State) : (s.reply r).now = s.now := rfl
@[simp] theorem State.reply_hostReply (r : HostReply) (s : State) : (s.reply r).hostReply = r := rfl
@[simp] theorem State.reply_pending (r : HostReply) (s : State) : (s.reply r).pending = s.pending := rfl

/-! #### releaseHost -/

@[simp] theorem State.releaseHost_table (r : HostReply) (s : State) : (s.releaseHost r).table = s.table := rfl
@[simp] theorem State.releaseHost_pwq (r : HostReply) (s : State) : (s.releaseHost r).pwq = s.pwq := rfl
@[simp] theorem State.releaseHost_slot (r : HostReply) (s : State) : (s.releaseHost r).slot = s.slot := rfl
@[simp] theorem State.releaseHost_lineset (r : HostReply) (s : State) : (s.releaseHost r).lineset = s.lineset := rfl
@[simp] theorem State.releaseHost_master (r : HostReply) (s : State) : (s.releaseHost r).master = s.master := rfl
@[simp] theorem State.releaseHost_stall (r : HostReply) (s : State) : (s.releaseHost r).stall = none := rfl
@[simp] theorem State.releaseHost_faults (r : HostReply) (s : State) : (s.releaseHost r).faults = s.faults := rfl
@[simp] theorem State.releaseHost_inb (r : HostReply) (s : State) : (s.releaseHost r).inb = s.inb := rfl
@[simp] theorem State.releaseHost_outb (r : HostReply) (s : State) : (s.releaseHost r).outb = s.outb := rfl
@[simp] theorem State.releaseHost_stream (r : HostReply) (s : State) : (s.releaseHost r).stream = s.stream := rfl
@[simp] theorem State.releaseHost_settings (r : HostReply) (s : State) :
    (s.releaseHost r).settings = s.settings := rfl
@[simp] theorem State.releaseHost_events (r : HostReply) (s : State) : (s.releaseHost r).events = s.events := rfl
@[simp] theorem State.releaseHost_power (r : HostReply) (s : State) : (s.releaseHost r).power = s.power := rfl
@[simp] theorem State.releaseHost_pins (r : HostReply) (s : State) : (s.releaseHost r).pins = s.pins := rfl
@[simp] theorem State.releaseHost_now (r : HostReply) (s : State) : (s.releaseHost r).now = s.now := rfl
@[simp] theorem State.releaseHost_hostReply (r : HostReply) (s : State) : (s.releaseHost r).hostReply = r := rfl
@[simp] theorem State.releaseHost_pending (r : HostReply) (s : State) : (s.releaseHost r).pending = s.pending := rfl

/-! #### holdHost -/

@[simp] theorem State.holdHost_table (h : Holder) (s : State) : (s.holdHost h).table = s.table := rfl
@[simp] theorem State.holdHost_pwq (h : Holder) (s : State) : (s.holdHost h).pwq = s.pwq := rfl
@[simp] theorem State.holdHost_slot (h : Holder) (s : State) : (s.holdHost h).slot = s.slot := rfl
@[simp] theorem State.holdHost_lineset (h : Holder) (s : State) : (s.holdHost h).lineset = s.lineset := rfl
@[simp] theorem State.holdHost_master (h : Holder) (s : State) : (s.holdHost h).master = s.master := rfl
@[simp] theorem State.holdHost_faults (h : Holder) (s : State) : (s.holdHost h).faults = s.faults := rfl
@[simp] theorem State.holdHost_inb (h : Holder) (s : State) : (s.holdHost h).inb = s.inb := rfl
@[simp] theorem State.holdHost_outb (h : Holder) (s : State) : (s.holdHost h).outb = s.outb := rfl
@[simp] theorem State.holdHost_stream (h : Holder) (s : State) : (s.holdHost h).stream = s.stream := rfl
@[simp] theorem State.holdHost_settings (h : Holder) (s : State) : (s.holdHost h).settings = s.settings := rfl
@[simp] theorem State.holdHost_events (h : Holder) (s : State) : (s.holdHost h).events = s.events := rfl
@[simp] theorem State.holdHost_power (h : Holder) (s : State) : (s.holdHost h).power = s.power := rfl
@[simp] theorem State.holdHost_pins (h : Holder) (s : State) : (s.holdHost h).pins = s.pins := rfl
@[simp] theorem State.holdHost_now (h : Holder) (s : State) : (s.holdHost h).now = s.now := rfl
@[simp] theorem State.holdHost_hostReply (h : Holder) (s : State) : (s.holdHost h).hostReply = .held := rfl
@[simp] theorem State.holdHost_pending (h : Holder) (s : State) : (s.holdHost h).pending = s.pending := rfl

/-! #### reach -/

@[simp] theorem State.reach_table (t : Timer) (s : State) : (s.reach t).table = s.table := rfl
@[simp] theorem State.reach_pwq (t : Timer) (s : State) : (s.reach t).pwq = s.pwq := rfl
@[simp] theorem State.reach_slot (t : Timer) (s : State) : (s.reach t).slot = s.slot := rfl
@[simp] theorem State.reach_lineset (t : Timer) (s : State) : (s.reach t).lineset = s.lineset := rfl
@[simp] theorem State.reach_master (t : Timer) (s : State) : (s.reach t).master = s.master := rfl
@[simp] theorem State.reach_stall (t : Timer) (s : State) : (s.reach t).stall = s.stall := rfl
@[simp] theorem State.reach_faults (t : Timer) (s : State) : (s.reach t).faults = s.faults := rfl
@[simp] theorem State.reach_inb (t : Timer) (s : State) : (s.reach t).inb = s.inb := rfl
@[simp] theorem State.reach_outb (t : Timer) (s : State) : (s.reach t).outb = s.outb := rfl
@[simp] theorem State.reach_stream (t : Timer) (s : State) : (s.reach t).stream = s.stream := rfl
@[simp] theorem State.reach_settings (t : Timer) (s : State) : (s.reach t).settings = s.settings := rfl
@[simp] theorem State.reach_events (t : Timer) (s : State) : (s.reach t).events = s.events := rfl
@[simp] theorem State.reach_power (t : Timer) (s : State) : (s.reach t).power = s.power := rfl
@[simp] theorem State.reach_pins (t : Timer) (s : State) : (s.reach t).pins = s.pins := rfl
@[simp] theorem State.reach_now (t : Timer) (s : State) : (s.reach t).now = max s.now (t.start + t.limit) := rfl
@[simp] theorem State.reach_hostReply (t : Timer) (s : State) : (s.reach t).hostReply = s.hostReply := rfl
@[simp] theorem State.reach_pending (t : Timer) (s : State) : (s.reach t).pending = s.pending := rfl

/-! #### latchAnswer -/

@[simp] theorem State.latchAnswer_table (s : State) : s.latchAnswer.table = s.table := rfl
@[simp] theorem State.latchAnswer_pwq (s : State) : s.latchAnswer.pwq = s.pwq := rfl
@[simp] theorem State.latchAnswer_slot (s : State) : s.latchAnswer.slot = s.slot := rfl
@[simp] theorem State.latchAnswer_lineset (s : State) : s.latchAnswer.lineset = s.lineset := rfl
@[simp] theorem State.latchAnswer_master (s : State) : s.latchAnswer.master = s.master := rfl
@[simp] theorem State.latchAnswer_stall (s : State) : s.latchAnswer.stall = s.stall := rfl
@[simp] theorem State.latchAnswer_faults (s : State) : s.latchAnswer.faults = s.faults := rfl
@[simp] theorem State.latchAnswer_inb (s : State) : s.latchAnswer.inb = s.inb := rfl
@[simp] theorem State.latchAnswer_outb (s : State) : s.latchAnswer.outb = s.outb := rfl
@[simp] theorem State.latchAnswer_stream (s : State) : s.latchAnswer.stream = s.stream := rfl
@[simp] theorem State.latchAnswer_settings (s : State) : s.latchAnswer.settings = s.settings := rfl
@[simp] theorem State.latchAnswer_events (s : State) :
    s.latchAnswer.events = { s.events with host := { s.events.host with answer := true } } := rfl
@[simp] theorem State.latchAnswer_power (s : State) : s.latchAnswer.power = s.power := rfl
@[simp] theorem State.latchAnswer_pins (s : State) : s.latchAnswer.pins = s.pins := rfl
@[simp] theorem State.latchAnswer_now (s : State) : s.latchAnswer.now = s.now := rfl
@[simp] theorem State.latchAnswer_hostReply (s : State) : s.latchAnswer.hostReply = s.hostReply := rfl
@[simp] theorem State.latchAnswer_pending (s : State) : s.latchAnswer.pending = s.pending := rfl

/-! #### latchHostAttention -/

@[simp] theorem State.latchHostAttention_table (s : State) : s.latchHostAttention.table = s.table := rfl
@[simp] theorem State.latchHostAttention_pwq (s : State) : s.latchHostAttention.pwq = s.pwq := rfl
@[simp] theorem State.latchHostAttention_slot (s : State) : s.latchHostAttention.slot = s.slot := rfl
@[simp] theorem State.latchHostAttention_lineset (s : State) : s.latchHostAttention.lineset = s.lineset := rfl
@[simp] theorem State.latchHostAttention_master (s : State) : s.latchHostAttention.master = s.master := rfl
@[simp] theorem State.latchHostAttention_stall (s : State) : s.latchHostAttention.stall = s.stall := rfl
@[simp] theorem State.latchHostAttention_faults (s : State) : s.latchHostAttention.faults = s.faults := rfl
@[simp] theorem State.latchHostAttention_inb (s : State) : s.latchHostAttention.inb = s.inb := rfl
@[simp] theorem State.latchHostAttention_outb (s : State) : s.latchHostAttention.outb = s.outb := rfl
@[simp] theorem State.latchHostAttention_stream (s : State) : s.latchHostAttention.stream = s.stream := rfl
@[simp] theorem State.latchHostAttention_settings (s : State) : s.latchHostAttention.settings = s.settings := rfl
@[simp] theorem State.latchHostAttention_events (s : State) :
    s.latchHostAttention.events = { s.events with host := { s.events.host with attention := true } } := rfl
@[simp] theorem State.latchHostAttention_power (s : State) : s.latchHostAttention.power = s.power := rfl
@[simp] theorem State.latchHostAttention_pins (s : State) : s.latchHostAttention.pins = s.pins := rfl
@[simp] theorem State.latchHostAttention_now (s : State) : s.latchHostAttention.now = s.now := rfl
@[simp] theorem State.latchHostAttention_hostReply (s : State) : s.latchHostAttention.hostReply = s.hostReply := rfl
@[simp] theorem State.latchHostAttention_pending (s : State) : s.latchHostAttention.pending = s.pending := rfl

/-! #### latchPower -/

@[simp] theorem State.latchPower_table (s : State) : s.latchPower.table = s.table := rfl
@[simp] theorem State.latchPower_pwq (s : State) : s.latchPower.pwq = s.pwq := rfl
@[simp] theorem State.latchPower_slot (s : State) : s.latchPower.slot = s.slot := rfl
@[simp] theorem State.latchPower_lineset (s : State) : s.latchPower.lineset = s.lineset := rfl
@[simp] theorem State.latchPower_master (s : State) : s.latchPower.master = s.master := rfl
@[simp] theorem State.latchPower_stall (s : State) : s.latchPower.stall = s.stall := rfl
@[simp] theorem State.latchPower_faults (s : State) : s.latchPower.faults = s.faults := rfl
@[simp] theorem State.latchPower_inb (s : State) : s.latchPower.inb = s.inb := rfl
@[simp] theorem State.latchPower_outb (s : State) : s.latchPower.outb = s.outb := rfl
@[simp] theorem State.latchPower_stream (s : State) : s.latchPower.stream = s.stream := rfl
@[simp] theorem State.latchPower_settings (s : State) : s.latchPower.settings = s.settings := rfl
@[simp] theorem State.latchPower_events (s : State) :
    s.latchPower.events = { s.events with host := { s.events.host with power := true } } := rfl
@[simp] theorem State.latchPower_power (s : State) : s.latchPower.power = s.power := rfl
@[simp] theorem State.latchPower_pins (s : State) : s.latchPower.pins = s.pins := rfl
@[simp] theorem State.latchPower_now (s : State) : s.latchPower.now = s.now := rfl
@[simp] theorem State.latchPower_hostReply (s : State) : s.latchPower.hostReply = s.hostReply := rfl
@[simp] theorem State.latchPower_pending (s : State) : s.latchPower.pending = s.pending := rfl

/-! #### latchAttention -/

@[simp] theorem State.latchAttention_table (s : State) : s.latchAttention.table = s.table := rfl
@[simp] theorem State.latchAttention_pwq (s : State) : s.latchAttention.pwq = s.pwq := rfl
@[simp] theorem State.latchAttention_slot (s : State) : s.latchAttention.slot = s.slot := rfl
@[simp] theorem State.latchAttention_lineset (s : State) : s.latchAttention.lineset = s.lineset := rfl
@[simp] theorem State.latchAttention_master (s : State) : s.latchAttention.master = s.master := rfl
@[simp] theorem State.latchAttention_stall (s : State) : s.latchAttention.stall = s.stall := rfl
@[simp] theorem State.latchAttention_faults (s : State) : s.latchAttention.faults = s.faults := rfl
@[simp] theorem State.latchAttention_inb (s : State) : s.latchAttention.inb = s.inb := rfl
@[simp] theorem State.latchAttention_outb (s : State) : s.latchAttention.outb = s.outb := rfl
@[simp] theorem State.latchAttention_stream (s : State) : s.latchAttention.stream = s.stream := rfl
@[simp] theorem State.latchAttention_settings (s : State) : s.latchAttention.settings = s.settings := rfl
@[simp] theorem State.latchAttention_events (s : State) :
    s.latchAttention.events = { s.events with loc := { s.events.loc with attention := true } } := rfl
@[simp] theorem State.latchAttention_power (s : State) : s.latchAttention.power = s.power := rfl
@[simp] theorem State.latchAttention_pins (s : State) : s.latchAttention.pins = s.pins := rfl
@[simp] theorem State.latchAttention_now (s : State) : s.latchAttention.now = s.now := rfl
@[simp] theorem State.latchAttention_hostReply (s : State) : s.latchAttention.hostReply = s.hostReply := rfl
@[simp] theorem State.latchAttention_pending (s : State) : s.latchAttention.pending = s.pending := rfl

/-! #### latchQuiesce -/

@[simp] theorem State.latchQuiesce_table (s : State) : s.latchQuiesce.table = s.table := rfl
@[simp] theorem State.latchQuiesce_pwq (s : State) : s.latchQuiesce.pwq = s.pwq := rfl
@[simp] theorem State.latchQuiesce_slot (s : State) : s.latchQuiesce.slot = s.slot := rfl
@[simp] theorem State.latchQuiesce_lineset (s : State) : s.latchQuiesce.lineset = s.lineset := rfl
@[simp] theorem State.latchQuiesce_master (s : State) : s.latchQuiesce.master = s.master := rfl
@[simp] theorem State.latchQuiesce_stall (s : State) : s.latchQuiesce.stall = s.stall := rfl
@[simp] theorem State.latchQuiesce_faults (s : State) : s.latchQuiesce.faults = s.faults := rfl
@[simp] theorem State.latchQuiesce_inb (s : State) : s.latchQuiesce.inb = s.inb := rfl
@[simp] theorem State.latchQuiesce_outb (s : State) : s.latchQuiesce.outb = s.outb := rfl
@[simp] theorem State.latchQuiesce_stream (s : State) : s.latchQuiesce.stream = s.stream := rfl
@[simp] theorem State.latchQuiesce_settings (s : State) : s.latchQuiesce.settings = s.settings := rfl
@[simp] theorem State.latchQuiesce_events (s : State) :
    s.latchQuiesce.events = { s.events with loc := { s.events.loc with quiesce := true } } := rfl
@[simp] theorem State.latchQuiesce_power (s : State) : s.latchQuiesce.power = s.power := rfl
@[simp] theorem State.latchQuiesce_pins (s : State) : s.latchQuiesce.pins = s.pins := rfl
@[simp] theorem State.latchQuiesce_now (s : State) : s.latchQuiesce.now = s.now := rfl
@[simp] theorem State.latchQuiesce_hostReply (s : State) : s.latchQuiesce.hostReply = s.hostReply := rfl
@[simp] theorem State.latchQuiesce_pending (s : State) : s.latchQuiesce.pending = s.pending := rfl

/-! #### latchCancel -/

@[simp] theorem State.latchCancel_table (s : State) : s.latchCancel.table = s.table := rfl
@[simp] theorem State.latchCancel_pwq (s : State) : s.latchCancel.pwq = s.pwq := rfl
@[simp] theorem State.latchCancel_slot (s : State) : s.latchCancel.slot = s.slot := rfl
@[simp] theorem State.latchCancel_lineset (s : State) : s.latchCancel.lineset = s.lineset := rfl
@[simp] theorem State.latchCancel_master (s : State) : s.latchCancel.master = s.master := rfl
@[simp] theorem State.latchCancel_stall (s : State) : s.latchCancel.stall = s.stall := rfl
@[simp] theorem State.latchCancel_faults (s : State) : s.latchCancel.faults = s.faults := rfl
@[simp] theorem State.latchCancel_inb (s : State) : s.latchCancel.inb = s.inb := rfl
@[simp] theorem State.latchCancel_outb (s : State) : s.latchCancel.outb = s.outb := rfl
@[simp] theorem State.latchCancel_stream (s : State) : s.latchCancel.stream = s.stream := rfl
@[simp] theorem State.latchCancel_settings (s : State) : s.latchCancel.settings = s.settings := rfl
@[simp] theorem State.latchCancel_events (s : State) :
    s.latchCancel.events = { s.events with loc := { s.events.loc with cancel := true } } := rfl
@[simp] theorem State.latchCancel_power (s : State) : s.latchCancel.power = s.power := rfl
@[simp] theorem State.latchCancel_pins (s : State) : s.latchCancel.pins = s.pins := rfl
@[simp] theorem State.latchCancel_now (s : State) : s.latchCancel.now = s.now := rfl
@[simp] theorem State.latchCancel_hostReply (s : State) : s.latchCancel.hostReply = s.hostReply := rfl
@[simp] theorem State.latchCancel_pending (s : State) : s.latchCancel.pending = s.pending := rfl

/-! #### latchWake -/

@[simp] theorem State.latchWake_table (s : State) : s.latchWake.table = s.table := rfl
@[simp] theorem State.latchWake_pwq (s : State) : s.latchWake.pwq = s.pwq := rfl
@[simp] theorem State.latchWake_slot (s : State) : s.latchWake.slot = s.slot := rfl
@[simp] theorem State.latchWake_lineset (s : State) : s.latchWake.lineset = s.lineset := rfl
@[simp] theorem State.latchWake_master (s : State) : s.latchWake.master = s.master := rfl
@[simp] theorem State.latchWake_stall (s : State) : s.latchWake.stall = s.stall := rfl
@[simp] theorem State.latchWake_faults (s : State) : s.latchWake.faults = s.faults := rfl
@[simp] theorem State.latchWake_inb (s : State) : s.latchWake.inb = s.inb := rfl
@[simp] theorem State.latchWake_outb (s : State) : s.latchWake.outb = s.outb := rfl
@[simp] theorem State.latchWake_stream (s : State) : s.latchWake.stream = s.stream := rfl
@[simp] theorem State.latchWake_settings (s : State) : s.latchWake.settings = s.settings := rfl
@[simp] theorem State.latchWake_events (s : State) :
    s.latchWake.events = { s.events with loc := { s.events.loc with wake := true } } := rfl
@[simp] theorem State.latchWake_power (s : State) : s.latchWake.power = s.power := rfl
@[simp] theorem State.latchWake_pins (s : State) : s.latchWake.pins = s.pins := rfl
@[simp] theorem State.latchWake_now (s : State) : s.latchWake.now = s.now := rfl
@[simp] theorem State.latchWake_hostReply (s : State) : s.latchWake.hostReply = s.hostReply := rfl
@[simp] theorem State.latchWake_pending (s : State) : s.latchWake.pending = s.pending := rfl

/-! #### latchGrantSlow -/

@[simp] theorem State.latchGrantSlow_table (s : State) : s.latchGrantSlow.table = s.table := rfl
@[simp] theorem State.latchGrantSlow_pwq (s : State) : s.latchGrantSlow.pwq = s.pwq := rfl
@[simp] theorem State.latchGrantSlow_slot (s : State) : s.latchGrantSlow.slot = s.slot := rfl
@[simp] theorem State.latchGrantSlow_lineset (s : State) : s.latchGrantSlow.lineset = s.lineset := rfl
@[simp] theorem State.latchGrantSlow_master (s : State) : s.latchGrantSlow.master = s.master := rfl
@[simp] theorem State.latchGrantSlow_stall (s : State) : s.latchGrantSlow.stall = s.stall := rfl
@[simp] theorem State.latchGrantSlow_faults (s : State) : s.latchGrantSlow.faults = s.faults := rfl
@[simp] theorem State.latchGrantSlow_inb (s : State) : s.latchGrantSlow.inb = s.inb := rfl
@[simp] theorem State.latchGrantSlow_outb (s : State) : s.latchGrantSlow.outb = s.outb := rfl
@[simp] theorem State.latchGrantSlow_stream (s : State) : s.latchGrantSlow.stream = s.stream := rfl
@[simp] theorem State.latchGrantSlow_settings (s : State) : s.latchGrantSlow.settings = s.settings := rfl
@[simp] theorem State.latchGrantSlow_events (s : State) :
    s.latchGrantSlow.events = { s.events with loc := { s.events.loc with grantSlow := true } } := rfl
@[simp] theorem State.latchGrantSlow_power (s : State) : s.latchGrantSlow.power = s.power := rfl
@[simp] theorem State.latchGrantSlow_pins (s : State) : s.latchGrantSlow.pins = s.pins := rfl
@[simp] theorem State.latchGrantSlow_now (s : State) : s.latchGrantSlow.now = s.now := rfl
@[simp] theorem State.latchGrantSlow_hostReply (s : State) : s.latchGrantSlow.hostReply = s.hostReply := rfl
@[simp] theorem State.latchGrantSlow_pending (s : State) : s.latchGrantSlow.pending = s.pending := rfl

/-! #### latchTable -/

@[simp] theorem State.latchTable_table (s : State) : s.latchTable.table = s.table := rfl
@[simp] theorem State.latchTable_pwq (s : State) : s.latchTable.pwq = s.pwq := rfl
@[simp] theorem State.latchTable_slot (s : State) : s.latchTable.slot = s.slot := rfl
@[simp] theorem State.latchTable_lineset (s : State) : s.latchTable.lineset = s.lineset := rfl
@[simp] theorem State.latchTable_master (s : State) : s.latchTable.master = s.master := rfl
@[simp] theorem State.latchTable_stall (s : State) : s.latchTable.stall = s.stall := rfl
@[simp] theorem State.latchTable_faults (s : State) : s.latchTable.faults = s.faults := rfl
@[simp] theorem State.latchTable_inb (s : State) : s.latchTable.inb = s.inb := rfl
@[simp] theorem State.latchTable_outb (s : State) : s.latchTable.outb = s.outb := rfl
@[simp] theorem State.latchTable_stream (s : State) : s.latchTable.stream = s.stream := rfl
@[simp] theorem State.latchTable_settings (s : State) : s.latchTable.settings = s.settings := rfl
@[simp] theorem State.latchTable_events (s : State) :
    s.latchTable.events = { s.events with loc := { s.events.loc with table := true } } := rfl
@[simp] theorem State.latchTable_power (s : State) : s.latchTable.power = s.power := rfl
@[simp] theorem State.latchTable_pins (s : State) : s.latchTable.pins = s.pins := rfl
@[simp] theorem State.latchTable_now (s : State) : s.latchTable.now = s.now := rfl
@[simp] theorem State.latchTable_hostReply (s : State) : s.latchTable.hostReply = s.hostReply := rfl
@[simp] theorem State.latchTable_pending (s : State) : s.latchTable.pending = s.pending := rfl

/-! #### latchMarkTaken -/

@[simp] theorem State.latchMarkTaken_table (s : State) : s.latchMarkTaken.table = s.table := rfl
@[simp] theorem State.latchMarkTaken_pwq (s : State) : s.latchMarkTaken.pwq = s.pwq := rfl
@[simp] theorem State.latchMarkTaken_slot (s : State) : s.latchMarkTaken.slot = s.slot := rfl
@[simp] theorem State.latchMarkTaken_lineset (s : State) : s.latchMarkTaken.lineset = s.lineset := rfl
@[simp] theorem State.latchMarkTaken_master (s : State) : s.latchMarkTaken.master = s.master := rfl
@[simp] theorem State.latchMarkTaken_stall (s : State) : s.latchMarkTaken.stall = s.stall := rfl
@[simp] theorem State.latchMarkTaken_faults (s : State) : s.latchMarkTaken.faults = s.faults := rfl
@[simp] theorem State.latchMarkTaken_inb (s : State) : s.latchMarkTaken.inb = s.inb := rfl
@[simp] theorem State.latchMarkTaken_outb (s : State) : s.latchMarkTaken.outb = s.outb := rfl
@[simp] theorem State.latchMarkTaken_stream (s : State) : s.latchMarkTaken.stream = s.stream := rfl
@[simp] theorem State.latchMarkTaken_settings (s : State) : s.latchMarkTaken.settings = s.settings := rfl
@[simp] theorem State.latchMarkTaken_events (s : State) :
    s.latchMarkTaken.events = { s.events with loc := { s.events.loc with markTaken := true } } := rfl
@[simp] theorem State.latchMarkTaken_power (s : State) : s.latchMarkTaken.power = s.power := rfl
@[simp] theorem State.latchMarkTaken_pins (s : State) : s.latchMarkTaken.pins = s.pins := rfl
@[simp] theorem State.latchMarkTaken_now (s : State) : s.latchMarkTaken.now = s.now := rfl
@[simp] theorem State.latchMarkTaken_hostReply (s : State) : s.latchMarkTaken.hostReply = s.hostReply := rfl
@[simp] theorem State.latchMarkTaken_pending (s : State) : s.latchMarkTaken.pending = s.pending := rfl

/-! #### latchDatapathDone -/

@[simp] theorem State.latchDatapathDone_table (s : State) : s.latchDatapathDone.table = s.table := rfl
@[simp] theorem State.latchDatapathDone_pwq (s : State) : s.latchDatapathDone.pwq = s.pwq := rfl
@[simp] theorem State.latchDatapathDone_slot (s : State) : s.latchDatapathDone.slot = s.slot := rfl
@[simp] theorem State.latchDatapathDone_lineset (s : State) : s.latchDatapathDone.lineset = s.lineset := rfl
@[simp] theorem State.latchDatapathDone_master (s : State) : s.latchDatapathDone.master = s.master := rfl
@[simp] theorem State.latchDatapathDone_stall (s : State) : s.latchDatapathDone.stall = s.stall := rfl
@[simp] theorem State.latchDatapathDone_faults (s : State) : s.latchDatapathDone.faults = s.faults := rfl
@[simp] theorem State.latchDatapathDone_inb (s : State) : s.latchDatapathDone.inb = s.inb := rfl
@[simp] theorem State.latchDatapathDone_outb (s : State) : s.latchDatapathDone.outb = s.outb := rfl
@[simp] theorem State.latchDatapathDone_stream (s : State) : s.latchDatapathDone.stream = s.stream := rfl
@[simp] theorem State.latchDatapathDone_settings (s : State) : s.latchDatapathDone.settings = s.settings := rfl
@[simp] theorem State.latchDatapathDone_events (s : State) :
    s.latchDatapathDone.events = { s.events with loc := { s.events.loc with datapathDone := true } } := rfl
@[simp] theorem State.latchDatapathDone_power (s : State) : s.latchDatapathDone.power = s.power := rfl
@[simp] theorem State.latchDatapathDone_pins (s : State) : s.latchDatapathDone.pins = s.pins := rfl
@[simp] theorem State.latchDatapathDone_now (s : State) : s.latchDatapathDone.now = s.now := rfl
@[simp] theorem State.latchDatapathDone_hostReply (s : State) : s.latchDatapathDone.hostReply = s.hostReply := rfl
@[simp] theorem State.latchDatapathDone_pending (s : State) : s.latchDatapathDone.pending = s.pending := rfl

/-! #### strikeWord -/

@[simp] theorem State.strikeWord_table (w : Word) (s : State) : (s.strikeWord w).table = s.table := rfl
@[simp] theorem State.strikeWord_pwq (w : Word) (s : State) : (s.strikeWord w).pwq = s.pwq := rfl
@[simp] theorem State.strikeWord_slot (w : Word) (s : State) : (s.strikeWord w).slot = s.slot := rfl
@[simp] theorem State.strikeWord_lineset (w : Word) (s : State) :
    (s.strikeWord w).lineset = s.lineset.strikeIf (fun l => l.covers w) := rfl
@[simp] theorem State.strikeWord_master (w : Word) (s : State) : (s.strikeWord w).master = s.master := rfl
@[simp] theorem State.strikeWord_stall (w : Word) (s : State) : (s.strikeWord w).stall = s.stall := rfl
@[simp] theorem State.strikeWord_faults (w : Word) (s : State) : (s.strikeWord w).faults = s.faults := rfl
@[simp] theorem State.strikeWord_inb (w : Word) (s : State) : (s.strikeWord w).inb = s.inb := rfl
@[simp] theorem State.strikeWord_outb (w : Word) (s : State) : (s.strikeWord w).outb = s.outb := rfl
@[simp] theorem State.strikeWord_stream (w : Word) (s : State) : (s.strikeWord w).stream = s.stream := rfl
@[simp] theorem State.strikeWord_settings (w : Word) (s : State) : (s.strikeWord w).settings = s.settings := rfl
@[simp] theorem State.strikeWord_events (w : Word) (s : State) : (s.strikeWord w).events = s.events := rfl
@[simp] theorem State.strikeWord_power (w : Word) (s : State) : (s.strikeWord w).power = s.power := rfl
@[simp] theorem State.strikeWord_pins (w : Word) (s : State) : (s.strikeWord w).pins = s.pins := rfl
@[simp] theorem State.strikeWord_now (w : Word) (s : State) : (s.strikeWord w).now = s.now := rfl
@[simp] theorem State.strikeWord_hostReply (w : Word) (s : State) : (s.strikeWord w).hostReply = s.hostReply := rfl
@[simp] theorem State.strikeWord_pending (w : Word) (s : State) : (s.strikeWord w).pending = s.pending := rfl

/-! #### strikeWords -/

@[simp] theorem State.strikeWords_table (ws : List Word) (s : State) : (s.strikeWords ws).table = s.table := rfl
@[simp] theorem State.strikeWords_pwq (ws : List Word) (s : State) : (s.strikeWords ws).pwq = s.pwq := rfl
@[simp] theorem State.strikeWords_slot (ws : List Word) (s : State) : (s.strikeWords ws).slot = s.slot := rfl
@[simp] theorem State.strikeWords_lineset (ws : List Word) (s : State) :
    (s.strikeWords ws).lineset = s.lineset.strikeIf (fun l => ws.any (fun w => l.covers w)) := rfl
@[simp] theorem State.strikeWords_master (ws : List Word) (s : State) : (s.strikeWords ws).master = s.master := rfl
@[simp] theorem State.strikeWords_stall (ws : List Word) (s : State) : (s.strikeWords ws).stall = s.stall := rfl
@[simp] theorem State.strikeWords_faults (ws : List Word) (s : State) : (s.strikeWords ws).faults = s.faults := rfl
@[simp] theorem State.strikeWords_inb (ws : List Word) (s : State) : (s.strikeWords ws).inb = s.inb := rfl
@[simp] theorem State.strikeWords_outb (ws : List Word) (s : State) : (s.strikeWords ws).outb = s.outb := rfl
@[simp] theorem State.strikeWords_stream (ws : List Word) (s : State) : (s.strikeWords ws).stream = s.stream := rfl
@[simp] theorem State.strikeWords_settings (ws : List Word) (s : State) :
    (s.strikeWords ws).settings = s.settings := rfl
@[simp] theorem State.strikeWords_events (ws : List Word) (s : State) : (s.strikeWords ws).events = s.events := rfl
@[simp] theorem State.strikeWords_power (ws : List Word) (s : State) : (s.strikeWords ws).power = s.power := rfl
@[simp] theorem State.strikeWords_pins (ws : List Word) (s : State) : (s.strikeWords ws).pins = s.pins := rfl
@[simp] theorem State.strikeWords_now (ws : List Word) (s : State) : (s.strikeWords ws).now = s.now := rfl
@[simp] theorem State.strikeWords_hostReply (ws : List Word) (s : State) :
    (s.strikeWords ws).hostReply = s.hostReply := rfl
@[simp] theorem State.strikeWords_pending (ws : List Word) (s : State) : (s.strikeWords ws).pending = s.pending := rfl

/-! #### strikeEntry -/

@[simp] theorem State.strikeEntry_table (e : EntryIdx) (s : State) : (s.strikeEntry e).table = s.table := rfl
@[simp] theorem State.strikeEntry_pwq (e : EntryIdx) (s : State) : (s.strikeEntry e).pwq = s.pwq := rfl
@[simp] theorem State.strikeEntry_slot (e : EntryIdx) (s : State) : (s.strikeEntry e).slot = s.slot := rfl
@[simp] theorem State.strikeEntry_lineset (e : EntryIdx) (s : State) :
    (s.strikeEntry e).lineset = s.lineset.strikeIf (fun l => l.filledBy e) := rfl
@[simp] theorem State.strikeEntry_master (e : EntryIdx) (s : State) : (s.strikeEntry e).master = s.master := rfl
@[simp] theorem State.strikeEntry_stall (e : EntryIdx) (s : State) : (s.strikeEntry e).stall = s.stall := rfl
@[simp] theorem State.strikeEntry_faults (e : EntryIdx) (s : State) : (s.strikeEntry e).faults = s.faults := rfl
@[simp] theorem State.strikeEntry_inb (e : EntryIdx) (s : State) : (s.strikeEntry e).inb = s.inb := rfl
@[simp] theorem State.strikeEntry_outb (e : EntryIdx) (s : State) : (s.strikeEntry e).outb = s.outb := rfl
@[simp] theorem State.strikeEntry_stream (e : EntryIdx) (s : State) : (s.strikeEntry e).stream = s.stream := rfl
@[simp] theorem State.strikeEntry_settings (e : EntryIdx) (s : State) : (s.strikeEntry e).settings = s.settings := rfl
@[simp] theorem State.strikeEntry_events (e : EntryIdx) (s : State) : (s.strikeEntry e).events = s.events := rfl
@[simp] theorem State.strikeEntry_power (e : EntryIdx) (s : State) : (s.strikeEntry e).power = s.power := rfl
@[simp] theorem State.strikeEntry_pins (e : EntryIdx) (s : State) : (s.strikeEntry e).pins = s.pins := rfl
@[simp] theorem State.strikeEntry_now (e : EntryIdx) (s : State) : (s.strikeEntry e).now = s.now := rfl
@[simp] theorem State.strikeEntry_hostReply (e : EntryIdx) (s : State) :
    (s.strikeEntry e).hostReply = s.hostReply := rfl
@[simp] theorem State.strikeEntry_pending (e : EntryIdx) (s : State) : (s.strikeEntry e).pending = s.pending := rfl

/-! #### strikeAll -/

@[simp] theorem State.strikeAll_table (s : State) : s.strikeAll.table = s.table := rfl
@[simp] theorem State.strikeAll_pwq (s : State) : s.strikeAll.pwq = s.pwq := rfl
@[simp] theorem State.strikeAll_slot (s : State) : s.strikeAll.slot = s.slot := rfl
@[simp] theorem State.strikeAll_lineset (s : State) : s.strikeAll.lineset = s.lineset.strikeIf (fun _ => true) := rfl
@[simp] theorem State.strikeAll_master (s : State) : s.strikeAll.master = s.master := rfl
@[simp] theorem State.strikeAll_stall (s : State) : s.strikeAll.stall = s.stall := rfl
@[simp] theorem State.strikeAll_faults (s : State) : s.strikeAll.faults = s.faults := rfl
@[simp] theorem State.strikeAll_inb (s : State) : s.strikeAll.inb = s.inb := rfl
@[simp] theorem State.strikeAll_outb (s : State) : s.strikeAll.outb = s.outb := rfl
@[simp] theorem State.strikeAll_stream (s : State) : s.strikeAll.stream = s.stream := rfl
@[simp] theorem State.strikeAll_settings (s : State) : s.strikeAll.settings = s.settings := rfl
@[simp] theorem State.strikeAll_events (s : State) : s.strikeAll.events = s.events := rfl
@[simp] theorem State.strikeAll_power (s : State) : s.strikeAll.power = s.power := rfl
@[simp] theorem State.strikeAll_pins (s : State) : s.strikeAll.pins = s.pins := rfl
@[simp] theorem State.strikeAll_now (s : State) : s.strikeAll.now = s.now := rfl
@[simp] theorem State.strikeAll_hostReply (s : State) : s.strikeAll.hostReply = s.hostReply := rfl
@[simp] theorem State.strikeAll_pending (s : State) : s.strikeAll.pending = s.pending := rfl

/-! #### setLive -/

@[simp] theorem State.setLive_pwq (e : EntryIdx) (l : Option LiveEntry) (s : State) :
    (s.setLive e l).pwq = s.pwq := rfl
@[simp] theorem State.setLive_slot (e : EntryIdx) (l : Option LiveEntry) (s : State) :
    (s.setLive e l).slot = s.slot := rfl
@[simp] theorem State.setLive_lineset (e : EntryIdx) (l : Option LiveEntry) (s : State) :
    (s.setLive e l).lineset = s.lineset := rfl
@[simp] theorem State.setLive_master (e : EntryIdx) (l : Option LiveEntry) (s : State) :
    (s.setLive e l).master = s.master := rfl
@[simp] theorem State.setLive_stall (e : EntryIdx) (l : Option LiveEntry) (s : State) :
    (s.setLive e l).stall = s.stall := rfl
@[simp] theorem State.setLive_faults (e : EntryIdx) (l : Option LiveEntry) (s : State) :
    (s.setLive e l).faults = s.faults := rfl
@[simp] theorem State.setLive_inb (e : EntryIdx) (l : Option LiveEntry) (s : State) :
    (s.setLive e l).inb = s.inb := rfl
@[simp] theorem State.setLive_outb (e : EntryIdx) (l : Option LiveEntry) (s : State) :
    (s.setLive e l).outb = s.outb := rfl
@[simp] theorem State.setLive_stream (e : EntryIdx) (l : Option LiveEntry) (s : State) :
    (s.setLive e l).stream = s.stream := rfl
@[simp] theorem State.setLive_settings (e : EntryIdx) (l : Option LiveEntry) (s : State) :
    (s.setLive e l).settings = s.settings := rfl
@[simp] theorem State.setLive_events (e : EntryIdx) (l : Option LiveEntry) (s : State) :
    (s.setLive e l).events = s.events := rfl
@[simp] theorem State.setLive_power (e : EntryIdx) (l : Option LiveEntry) (s : State) :
    (s.setLive e l).power = s.power := rfl
@[simp] theorem State.setLive_pins (e : EntryIdx) (l : Option LiveEntry) (s : State) :
    (s.setLive e l).pins = s.pins := rfl
@[simp] theorem State.setLive_now (e : EntryIdx) (l : Option LiveEntry) (s : State) :
    (s.setLive e l).now = s.now := rfl
@[simp] theorem State.setLive_hostReply (e : EntryIdx) (l : Option LiveEntry) (s : State) :
    (s.setLive e l).hostReply = s.hostReply := rfl
@[simp] theorem State.setLive_pending (e : EntryIdx) (l : Option LiveEntry) (s : State) :
    (s.setLive e l).pending = s.pending := rfl

/-! #### setHeld -/

@[simp] theorem State.setHeld_table (h : HeldWrite) (s : State) : (s.setHeld h).table = s.table := rfl
@[simp] theorem State.setHeld_pwq (h : HeldWrite) (s : State) : (s.setHeld h).pwq = { s.pwq with held := h } := rfl
@[simp] theorem State.setHeld_slot (h : HeldWrite) (s : State) : (s.setHeld h).slot = s.slot := rfl
@[simp] theorem State.setHeld_lineset (h : HeldWrite) (s : State) : (s.setHeld h).lineset = s.lineset := rfl
@[simp] theorem State.setHeld_master (h : HeldWrite) (s : State) : (s.setHeld h).master = s.master := rfl
@[simp] theorem State.setHeld_stall (h : HeldWrite) (s : State) : (s.setHeld h).stall = s.stall := rfl
@[simp] theorem State.setHeld_faults (h : HeldWrite) (s : State) : (s.setHeld h).faults = s.faults := rfl
@[simp] theorem State.setHeld_inb (h : HeldWrite) (s : State) : (s.setHeld h).inb = s.inb := rfl
@[simp] theorem State.setHeld_outb (h : HeldWrite) (s : State) : (s.setHeld h).outb = s.outb := rfl
@[simp] theorem State.setHeld_stream (h : HeldWrite) (s : State) : (s.setHeld h).stream = s.stream := rfl
@[simp] theorem State.setHeld_settings (h : HeldWrite) (s : State) : (s.setHeld h).settings = s.settings := rfl
@[simp] theorem State.setHeld_events (h : HeldWrite) (s : State) : (s.setHeld h).events = s.events := rfl
@[simp] theorem State.setHeld_power (h : HeldWrite) (s : State) : (s.setHeld h).power = s.power := rfl
@[simp] theorem State.setHeld_pins (h : HeldWrite) (s : State) : (s.setHeld h).pins = s.pins := rfl
@[simp] theorem State.setHeld_now (h : HeldWrite) (s : State) : (s.setHeld h).now = s.now := rfl
@[simp] theorem State.setHeld_hostReply (h : HeldWrite) (s : State) : (s.setHeld h).hostReply = s.hostReply := rfl
@[simp] theorem State.setHeld_pending (h : HeldWrite) (s : State) : (s.setHeld h).pending = s.pending := rfl

/-! #### setRead -/

@[simp] theorem State.setRead_table (r : Option ReadRecord) (s : State) : (s.setRead r).table = s.table := rfl
@[simp] theorem State.setRead_pwq (r : Option ReadRecord) (s : State) : (s.setRead r).pwq = s.pwq := rfl
@[simp] theorem State.setRead_slot (r : Option ReadRecord) (s : State) :
    (s.setRead r).slot = { s.slot with record := r } := rfl
@[simp] theorem State.setRead_lineset (r : Option ReadRecord) (s : State) : (s.setRead r).lineset = s.lineset := rfl
@[simp] theorem State.setRead_master (r : Option ReadRecord) (s : State) : (s.setRead r).master = s.master := rfl
@[simp] theorem State.setRead_stall (r : Option ReadRecord) (s : State) : (s.setRead r).stall = s.stall := rfl
@[simp] theorem State.setRead_faults (r : Option ReadRecord) (s : State) : (s.setRead r).faults = s.faults := rfl
@[simp] theorem State.setRead_inb (r : Option ReadRecord) (s : State) : (s.setRead r).inb = s.inb := rfl
@[simp] theorem State.setRead_outb (r : Option ReadRecord) (s : State) : (s.setRead r).outb = s.outb := rfl
@[simp] theorem State.setRead_stream (r : Option ReadRecord) (s : State) : (s.setRead r).stream = s.stream := rfl
@[simp] theorem State.setRead_settings (r : Option ReadRecord) (s : State) :
    (s.setRead r).settings = s.settings := rfl
@[simp] theorem State.setRead_events (r : Option ReadRecord) (s : State) : (s.setRead r).events = s.events := rfl
@[simp] theorem State.setRead_power (r : Option ReadRecord) (s : State) : (s.setRead r).power = s.power := rfl
@[simp] theorem State.setRead_pins (r : Option ReadRecord) (s : State) : (s.setRead r).pins = s.pins := rfl
@[simp] theorem State.setRead_now (r : Option ReadRecord) (s : State) : (s.setRead r).now = s.now := rfl
@[simp] theorem State.setRead_hostReply (r : Option ReadRecord) (s : State) :
    (s.setRead r).hostReply = s.hostReply := rfl
@[simp] theorem State.setRead_pending (r : Option ReadRecord) (s : State) : (s.setRead r).pending = s.pending := rfl

/-! #### setOrphan -/

@[simp] theorem State.setOrphan_table (o : Option Orphan) (s : State) : (s.setOrphan o).table = s.table := rfl
@[simp] theorem State.setOrphan_pwq (o : Option Orphan) (s : State) : (s.setOrphan o).pwq = s.pwq := rfl
@[simp] theorem State.setOrphan_slot (o : Option Orphan) (s : State) :
    (s.setOrphan o).slot = { s.slot with orphan := o } := rfl
@[simp] theorem State.setOrphan_lineset (o : Option Orphan) (s : State) : (s.setOrphan o).lineset = s.lineset := rfl
@[simp] theorem State.setOrphan_master (o : Option Orphan) (s : State) : (s.setOrphan o).master = s.master := rfl
@[simp] theorem State.setOrphan_stall (o : Option Orphan) (s : State) : (s.setOrphan o).stall = s.stall := rfl
@[simp] theorem State.setOrphan_faults (o : Option Orphan) (s : State) : (s.setOrphan o).faults = s.faults := rfl
@[simp] theorem State.setOrphan_inb (o : Option Orphan) (s : State) : (s.setOrphan o).inb = s.inb := rfl
@[simp] theorem State.setOrphan_outb (o : Option Orphan) (s : State) : (s.setOrphan o).outb = s.outb := rfl
@[simp] theorem State.setOrphan_stream (o : Option Orphan) (s : State) : (s.setOrphan o).stream = s.stream := rfl
@[simp] theorem State.setOrphan_settings (o : Option Orphan) (s : State) :
    (s.setOrphan o).settings = s.settings := rfl
@[simp] theorem State.setOrphan_events (o : Option Orphan) (s : State) : (s.setOrphan o).events = s.events := rfl
@[simp] theorem State.setOrphan_power (o : Option Orphan) (s : State) : (s.setOrphan o).power = s.power := rfl
@[simp] theorem State.setOrphan_pins (o : Option Orphan) (s : State) : (s.setOrphan o).pins = s.pins := rfl
@[simp] theorem State.setOrphan_now (o : Option Orphan) (s : State) : (s.setOrphan o).now = s.now := rfl
@[simp] theorem State.setOrphan_hostReply (o : Option Orphan) (s : State) :
    (s.setOrphan o).hostReply = s.hostReply := rfl
@[simp] theorem State.setOrphan_pending (o : Option Orphan) (s : State) : (s.setOrphan o).pending = s.pending := rfl

/-! #### setLine -/

@[simp] theorem State.setLine_table (i : LineIdx) (l : Line) (s : State) : (s.setLine i l).table = s.table := rfl
@[simp] theorem State.setLine_pwq (i : LineIdx) (l : Line) (s : State) : (s.setLine i l).pwq = s.pwq := rfl
@[simp] theorem State.setLine_slot (i : LineIdx) (l : Line) (s : State) : (s.setLine i l).slot = s.slot := rfl
@[simp] theorem State.setLine_lineset (i : LineIdx) (l : Line) (s : State) :
    (s.setLine i l).lineset = s.lineset.setLine i l := rfl
@[simp] theorem State.setLine_master (i : LineIdx) (l : Line) (s : State) : (s.setLine i l).master = s.master := rfl
@[simp] theorem State.setLine_stall (i : LineIdx) (l : Line) (s : State) : (s.setLine i l).stall = s.stall := rfl
@[simp] theorem State.setLine_faults (i : LineIdx) (l : Line) (s : State) : (s.setLine i l).faults = s.faults := rfl
@[simp] theorem State.setLine_inb (i : LineIdx) (l : Line) (s : State) : (s.setLine i l).inb = s.inb := rfl
@[simp] theorem State.setLine_outb (i : LineIdx) (l : Line) (s : State) : (s.setLine i l).outb = s.outb := rfl
@[simp] theorem State.setLine_stream (i : LineIdx) (l : Line) (s : State) : (s.setLine i l).stream = s.stream := rfl
@[simp] theorem State.setLine_settings (i : LineIdx) (l : Line) (s : State) :
    (s.setLine i l).settings = s.settings := rfl
@[simp] theorem State.setLine_events (i : LineIdx) (l : Line) (s : State) : (s.setLine i l).events = s.events := rfl
@[simp] theorem State.setLine_power (i : LineIdx) (l : Line) (s : State) : (s.setLine i l).power = s.power := rfl
@[simp] theorem State.setLine_pins (i : LineIdx) (l : Line) (s : State) : (s.setLine i l).pins = s.pins := rfl
@[simp] theorem State.setLine_now (i : LineIdx) (l : Line) (s : State) : (s.setLine i l).now = s.now := rfl
@[simp] theorem State.setLine_hostReply (i : LineIdx) (l : Line) (s : State) :
    (s.setLine i l).hostReply = s.hostReply := rfl
@[simp] theorem State.setLine_pending (i : LineIdx) (l : Line) (s : State) :
    (s.setLine i l).pending = s.pending := rfl

/-! #### setInb -/

@[simp] theorem State.setInb_table (c : Inbound) (s : State) : (s.setInb c).table = s.table := rfl
@[simp] theorem State.setInb_pwq (c : Inbound) (s : State) : (s.setInb c).pwq = s.pwq := rfl
@[simp] theorem State.setInb_slot (c : Inbound) (s : State) : (s.setInb c).slot = s.slot := rfl
@[simp] theorem State.setInb_lineset (c : Inbound) (s : State) : (s.setInb c).lineset = s.lineset := rfl
@[simp] theorem State.setInb_master (c : Inbound) (s : State) : (s.setInb c).master = s.master := rfl
@[simp] theorem State.setInb_stall (c : Inbound) (s : State) : (s.setInb c).stall = s.stall := rfl
@[simp] theorem State.setInb_faults (c : Inbound) (s : State) : (s.setInb c).faults = s.faults := rfl
@[simp] theorem State.setInb_inb (c : Inbound) (s : State) : (s.setInb c).inb = c := rfl
@[simp] theorem State.setInb_outb (c : Inbound) (s : State) : (s.setInb c).outb = s.outb := rfl
@[simp] theorem State.setInb_stream (c : Inbound) (s : State) : (s.setInb c).stream = s.stream := rfl
@[simp] theorem State.setInb_settings (c : Inbound) (s : State) : (s.setInb c).settings = s.settings := rfl
@[simp] theorem State.setInb_events (c : Inbound) (s : State) : (s.setInb c).events = s.events := rfl
@[simp] theorem State.setInb_power (c : Inbound) (s : State) : (s.setInb c).power = s.power := rfl
@[simp] theorem State.setInb_pins (c : Inbound) (s : State) : (s.setInb c).pins = s.pins := rfl
@[simp] theorem State.setInb_now (c : Inbound) (s : State) : (s.setInb c).now = s.now := rfl
@[simp] theorem State.setInb_hostReply (c : Inbound) (s : State) : (s.setInb c).hostReply = s.hostReply := rfl
@[simp] theorem State.setInb_pending (c : Inbound) (s : State) : (s.setInb c).pending = s.pending := rfl

/-! #### setOutb -/

@[simp] theorem State.setOutb_table (c : Outbound) (s : State) : (s.setOutb c).table = s.table := rfl
@[simp] theorem State.setOutb_pwq (c : Outbound) (s : State) : (s.setOutb c).pwq = s.pwq := rfl
@[simp] theorem State.setOutb_slot (c : Outbound) (s : State) : (s.setOutb c).slot = s.slot := rfl
@[simp] theorem State.setOutb_lineset (c : Outbound) (s : State) : (s.setOutb c).lineset = s.lineset := rfl
@[simp] theorem State.setOutb_master (c : Outbound) (s : State) : (s.setOutb c).master = s.master := rfl
@[simp] theorem State.setOutb_stall (c : Outbound) (s : State) : (s.setOutb c).stall = s.stall := rfl
@[simp] theorem State.setOutb_faults (c : Outbound) (s : State) : (s.setOutb c).faults = s.faults := rfl
@[simp] theorem State.setOutb_inb (c : Outbound) (s : State) : (s.setOutb c).inb = s.inb := rfl
@[simp] theorem State.setOutb_outb (c : Outbound) (s : State) : (s.setOutb c).outb = c := rfl
@[simp] theorem State.setOutb_stream (c : Outbound) (s : State) : (s.setOutb c).stream = s.stream := rfl
@[simp] theorem State.setOutb_settings (c : Outbound) (s : State) : (s.setOutb c).settings = s.settings := rfl
@[simp] theorem State.setOutb_events (c : Outbound) (s : State) : (s.setOutb c).events = s.events := rfl
@[simp] theorem State.setOutb_power (c : Outbound) (s : State) : (s.setOutb c).power = s.power := rfl
@[simp] theorem State.setOutb_pins (c : Outbound) (s : State) : (s.setOutb c).pins = s.pins := rfl
@[simp] theorem State.setOutb_now (c : Outbound) (s : State) : (s.setOutb c).now = s.now := rfl
@[simp] theorem State.setOutb_hostReply (c : Outbound) (s : State) : (s.setOutb c).hostReply = s.hostReply := rfl
@[simp] theorem State.setOutb_pending (c : Outbound) (s : State) : (s.setOutb c).pending = s.pending := rfl

/-! #### flagRefused -/

@[simp] theorem State.flagRefused_table (s : State) : s.flagRefused.table = s.table := rfl
@[simp] theorem State.flagRefused_pwq (s : State) : s.flagRefused.pwq = s.pwq := rfl
@[simp] theorem State.flagRefused_slot (s : State) : s.flagRefused.slot = s.slot := rfl
@[simp] theorem State.flagRefused_lineset (s : State) : s.flagRefused.lineset = s.lineset := rfl
@[simp] theorem State.flagRefused_master (s : State) : s.flagRefused.master = s.master := rfl
@[simp] theorem State.flagRefused_stall (s : State) : s.flagRefused.stall = s.stall := rfl
@[simp] theorem State.flagRefused_faults (s : State) : s.flagRefused.faults = s.faults := rfl
@[simp] theorem State.flagRefused_inb (s : State) : s.flagRefused.inb = s.inb := rfl
@[simp] theorem State.flagRefused_outb (s : State) : s.flagRefused.outb = s.outb := rfl
@[simp] theorem State.flagRefused_stream (s : State) : s.flagRefused.stream = { s.stream with refused := true } := rfl
@[simp] theorem State.flagRefused_settings (s : State) : s.flagRefused.settings = s.settings := rfl
@[simp] theorem State.flagRefused_events (s : State) : s.flagRefused.events = s.events := rfl
@[simp] theorem State.flagRefused_power (s : State) : s.flagRefused.power = s.power := rfl
@[simp] theorem State.flagRefused_pins (s : State) : s.flagRefused.pins = s.pins := rfl
@[simp] theorem State.flagRefused_now (s : State) : s.flagRefused.now = s.now := rfl
@[simp] theorem State.flagRefused_hostReply (s : State) : s.flagRefused.hostReply = s.hostReply := rfl
@[simp] theorem State.flagRefused_pending (s : State) : s.flagRefused.pending = s.pending := rfl

/-! #### flagDropped -/

@[simp] theorem State.flagDropped_table (s : State) : s.flagDropped.table = s.table := rfl
@[simp] theorem State.flagDropped_pwq (s : State) : s.flagDropped.pwq = s.pwq := rfl
@[simp] theorem State.flagDropped_slot (s : State) : s.flagDropped.slot = s.slot := rfl
@[simp] theorem State.flagDropped_lineset (s : State) : s.flagDropped.lineset = s.lineset := rfl
@[simp] theorem State.flagDropped_master (s : State) : s.flagDropped.master = s.master := rfl
@[simp] theorem State.flagDropped_stall (s : State) : s.flagDropped.stall = s.stall := rfl
@[simp] theorem State.flagDropped_faults (s : State) : s.flagDropped.faults = s.faults := rfl
@[simp] theorem State.flagDropped_inb (s : State) : s.flagDropped.inb = s.inb := rfl
@[simp] theorem State.flagDropped_outb (s : State) : s.flagDropped.outb = s.outb := rfl
@[simp] theorem State.flagDropped_stream (s : State) : s.flagDropped.stream = { s.stream with dropped := true } := rfl
@[simp] theorem State.flagDropped_settings (s : State) : s.flagDropped.settings = s.settings := rfl
@[simp] theorem State.flagDropped_events (s : State) : s.flagDropped.events = s.events := rfl
@[simp] theorem State.flagDropped_power (s : State) : s.flagDropped.power = s.power := rfl
@[simp] theorem State.flagDropped_pins (s : State) : s.flagDropped.pins = s.pins := rfl
@[simp] theorem State.flagDropped_now (s : State) : s.flagDropped.now = s.now := rfl
@[simp] theorem State.flagDropped_hostReply (s : State) : s.flagDropped.hostReply = s.hostReply := rfl
@[simp] theorem State.flagDropped_pending (s : State) : s.flagDropped.pending = s.pending := rfl

/-! #### damage -/

@[simp] theorem State.damage_table (s : State) : s.damage.table = s.table := rfl
@[simp] theorem State.damage_pwq (s : State) : s.damage.pwq = s.pwq := rfl
@[simp] theorem State.damage_slot (s : State) : s.damage.slot = s.slot := rfl
@[simp] theorem State.damage_lineset (s : State) : s.damage.lineset = s.lineset := rfl
@[simp] theorem State.damage_master (s : State) : s.damage.master = s.master := rfl
@[simp] theorem State.damage_stall (s : State) : s.damage.stall = s.stall := rfl
@[simp] theorem State.damage_faults (s : State) : s.damage.faults = s.faults := rfl
@[simp] theorem State.damage_inb (s : State) : s.damage.inb = { s.inb with damaged := true } := rfl
@[simp] theorem State.damage_outb (s : State) : s.damage.outb = s.outb := rfl
@[simp] theorem State.damage_stream (s : State) : s.damage.stream = s.stream := rfl
@[simp] theorem State.damage_settings (s : State) : s.damage.settings = s.settings := rfl
@[simp] theorem State.damage_events (s : State) : s.damage.events = s.events := rfl
@[simp] theorem State.damage_power (s : State) : s.damage.power = s.power := rfl
@[simp] theorem State.damage_pins (s : State) : s.damage.pins = s.pins := rfl
@[simp] theorem State.damage_now (s : State) : s.damage.now = s.now := rfl
@[simp] theorem State.damage_hostReply (s : State) : s.damage.hostReply = s.hostReply := rfl
@[simp] theorem State.damage_pending (s : State) : s.damage.pending = s.pending := rfl

/-! #### flagIndexRefused -/

@[simp] theorem State.flagIndexRefused_table (s : State) : s.flagIndexRefused.table = s.table := rfl
@[simp] theorem State.flagIndexRefused_pwq (s : State) : s.flagIndexRefused.pwq = s.pwq := rfl
@[simp] theorem State.flagIndexRefused_slot (s : State) : s.flagIndexRefused.slot = s.slot := rfl
@[simp] theorem State.flagIndexRefused_lineset (s : State) : s.flagIndexRefused.lineset = s.lineset := rfl
@[simp] theorem State.flagIndexRefused_master (s : State) : s.flagIndexRefused.master = s.master := rfl
@[simp] theorem State.flagIndexRefused_stall (s : State) : s.flagIndexRefused.stall = s.stall := rfl
@[simp] theorem State.flagIndexRefused_faults (s : State) : s.flagIndexRefused.faults = s.faults := rfl
@[simp] theorem State.flagIndexRefused_inb (s : State) : s.flagIndexRefused.inb = s.inb := rfl
@[simp] theorem State.flagIndexRefused_outb (s : State) : s.flagIndexRefused.outb = s.outb := rfl
@[simp] theorem State.flagIndexRefused_stream (s : State) :
    s.flagIndexRefused.stream = { s.stream with indexRefused := true } := rfl
@[simp] theorem State.flagIndexRefused_settings (s : State) : s.flagIndexRefused.settings = s.settings := rfl
@[simp] theorem State.flagIndexRefused_events (s : State) : s.flagIndexRefused.events = s.events := rfl
@[simp] theorem State.flagIndexRefused_power (s : State) : s.flagIndexRefused.power = s.power := rfl
@[simp] theorem State.flagIndexRefused_pins (s : State) : s.flagIndexRefused.pins = s.pins := rfl
@[simp] theorem State.flagIndexRefused_now (s : State) : s.flagIndexRefused.now = s.now := rfl
@[simp] theorem State.flagIndexRefused_hostReply (s : State) : s.flagIndexRefused.hostReply = s.hostReply := rfl
@[simp] theorem State.flagIndexRefused_pending (s : State) : s.flagIndexRefused.pending = s.pending := rfl

/-! #### setOwn -/

@[simp] theorem State.setOwn_table (o : Ownership) (s : State) : (s.setOwn o).table = s.table := rfl
@[simp] theorem State.setOwn_pwq (o : Ownership) (s : State) : (s.setOwn o).pwq = s.pwq := rfl
@[simp] theorem State.setOwn_slot (o : Ownership) (s : State) : (s.setOwn o).slot = s.slot := rfl
@[simp] theorem State.setOwn_lineset (o : Ownership) (s : State) : (s.setOwn o).lineset = s.lineset := rfl
@[simp] theorem State.setOwn_master (o : Ownership) (s : State) :
    (s.setOwn o).master = { s.master with own := o } := rfl
@[simp] theorem State.setOwn_stall (o : Ownership) (s : State) : (s.setOwn o).stall = s.stall := rfl
@[simp] theorem State.setOwn_faults (o : Ownership) (s : State) : (s.setOwn o).faults = s.faults := rfl
@[simp] theorem State.setOwn_inb (o : Ownership) (s : State) : (s.setOwn o).inb = s.inb := rfl
@[simp] theorem State.setOwn_outb (o : Ownership) (s : State) : (s.setOwn o).outb = s.outb := rfl
@[simp] theorem State.setOwn_stream (o : Ownership) (s : State) : (s.setOwn o).stream = s.stream := rfl
@[simp] theorem State.setOwn_settings (o : Ownership) (s : State) : (s.setOwn o).settings = s.settings := rfl
@[simp] theorem State.setOwn_events (o : Ownership) (s : State) : (s.setOwn o).events = s.events := rfl
@[simp] theorem State.setOwn_power (o : Ownership) (s : State) : (s.setOwn o).power = s.power := rfl
@[simp] theorem State.setOwn_pins (o : Ownership) (s : State) : (s.setOwn o).pins = s.pins := rfl
@[simp] theorem State.setOwn_now (o : Ownership) (s : State) : (s.setOwn o).now = s.now := rfl
@[simp] theorem State.setOwn_hostReply (o : Ownership) (s : State) : (s.setOwn o).hostReply = s.hostReply := rfl
@[simp] theorem State.setOwn_pending (o : Ownership) (s : State) : (s.setOwn o).pending = s.pending := rfl

/-! #### release -/

@[simp] theorem State.release_table (s : State) : s.release.table = s.table := rfl
@[simp] theorem State.release_pwq (s : State) : s.release.pwq = s.pwq := rfl
@[simp] theorem State.release_slot (s : State) : s.release.slot = s.slot := rfl
@[simp] theorem State.release_lineset (s : State) : s.release.lineset = s.lineset := rfl
@[simp] theorem State.release_master (s : State) :
    s.release.master = { s.master with own := .released, releaseMark := some s.now } := rfl
@[simp] theorem State.release_stall (s : State) : s.release.stall = s.stall := rfl
@[simp] theorem State.release_faults (s : State) : s.release.faults = s.faults := rfl
@[simp] theorem State.release_inb (s : State) : s.release.inb = s.inb := rfl
@[simp] theorem State.release_outb (s : State) : s.release.outb = s.outb := rfl
@[simp] theorem State.release_stream (s : State) : s.release.stream = s.stream := rfl
@[simp] theorem State.release_settings (s : State) : s.release.settings = s.settings := rfl
@[simp] theorem State.release_events (s : State) : s.release.events = s.events := rfl
@[simp] theorem State.release_power (s : State) : s.release.power = s.power := rfl
@[simp] theorem State.release_pins (s : State) : s.release.pins = s.pins := rfl
@[simp] theorem State.release_now (s : State) : s.release.now = s.now := rfl
@[simp] theorem State.release_hostReply (s : State) : s.release.hostReply = s.hostReply := rfl
@[simp] theorem State.release_pending (s : State) : s.release.pending = s.pending := rfl

/-! #### startTransfer -/

@[simp] theorem State.startTransfer_table (x : Transfer) (s : State) : (s.startTransfer x).table = s.table := rfl
@[simp] theorem State.startTransfer_pwq (x : Transfer) (s : State) : (s.startTransfer x).pwq = s.pwq := rfl
@[simp] theorem State.startTransfer_slot (x : Transfer) (s : State) : (s.startTransfer x).slot = s.slot := rfl
@[simp] theorem State.startTransfer_lineset (x : Transfer) (s : State) :
    (s.startTransfer x).lineset = s.lineset := rfl
@[simp] theorem State.startTransfer_master (x : Transfer) (s : State) :
    (s.startTransfer x).master = { s.master with transfer := some x } := rfl
@[simp] theorem State.startTransfer_stall (x : Transfer) (s : State) : (s.startTransfer x).stall = s.stall := rfl
@[simp] theorem State.startTransfer_faults (x : Transfer) (s : State) : (s.startTransfer x).faults = s.faults := rfl
@[simp] theorem State.startTransfer_inb (x : Transfer) (s : State) : (s.startTransfer x).inb = s.inb := rfl
@[simp] theorem State.startTransfer_outb (x : Transfer) (s : State) : (s.startTransfer x).outb = s.outb := rfl
@[simp] theorem State.startTransfer_stream (x : Transfer) (s : State) : (s.startTransfer x).stream = s.stream := rfl
@[simp] theorem State.startTransfer_settings (x : Transfer) (s : State) :
    (s.startTransfer x).settings = s.settings := rfl
@[simp] theorem State.startTransfer_events (x : Transfer) (s : State) : (s.startTransfer x).events = s.events := rfl
@[simp] theorem State.startTransfer_power (x : Transfer) (s : State) : (s.startTransfer x).power = s.power := rfl
@[simp] theorem State.startTransfer_pins (x : Transfer) (s : State) : (s.startTransfer x).pins = s.pins := rfl
@[simp] theorem State.startTransfer_now (x : Transfer) (s : State) : (s.startTransfer x).now = s.now := rfl
@[simp] theorem State.startTransfer_hostReply (x : Transfer) (s : State) :
    (s.startTransfer x).hostReply = s.hostReply := rfl
@[simp] theorem State.startTransfer_pending (x : Transfer) (s : State) :
    (s.startTransfer x).pending = s.pending := rfl

/-! #### setPower -/

@[simp] theorem State.setPower_table (p : PowerState) (s : State) : (s.setPower p).table = s.table := rfl
@[simp] theorem State.setPower_pwq (p : PowerState) (s : State) : (s.setPower p).pwq = s.pwq := rfl
@[simp] theorem State.setPower_slot (p : PowerState) (s : State) : (s.setPower p).slot = s.slot := rfl
@[simp] theorem State.setPower_lineset (p : PowerState) (s : State) : (s.setPower p).lineset = s.lineset := rfl
@[simp] theorem State.setPower_master (p : PowerState) (s : State) : (s.setPower p).master = s.master := rfl
@[simp] theorem State.setPower_stall (p : PowerState) (s : State) : (s.setPower p).stall = s.stall := rfl
@[simp] theorem State.setPower_faults (p : PowerState) (s : State) : (s.setPower p).faults = s.faults := rfl
@[simp] theorem State.setPower_inb (p : PowerState) (s : State) : (s.setPower p).inb = s.inb := rfl
@[simp] theorem State.setPower_outb (p : PowerState) (s : State) : (s.setPower p).outb = s.outb := rfl
@[simp] theorem State.setPower_stream (p : PowerState) (s : State) : (s.setPower p).stream = s.stream := rfl
@[simp] theorem State.setPower_settings (p : PowerState) (s : State) : (s.setPower p).settings = s.settings := rfl
@[simp] theorem State.setPower_events (p : PowerState) (s : State) : (s.setPower p).events = s.events := rfl
@[simp] theorem State.setPower_power (p : PowerState) (s : State) :
    (s.setPower p).power = { s.power with state := p } := rfl
@[simp] theorem State.setPower_pins (p : PowerState) (s : State) : (s.setPower p).pins = s.pins := rfl
@[simp] theorem State.setPower_now (p : PowerState) (s : State) : (s.setPower p).now = s.now := rfl
@[simp] theorem State.setPower_hostReply (p : PowerState) (s : State) : (s.setPower p).hostReply = s.hostReply := rfl
@[simp] theorem State.setPower_pending (p : PowerState) (s : State) : (s.setPower p).pending = s.pending := rfl

/-! #### setPowerLow -/

@[simp] theorem State.setPowerLow_table (b : Bool) (s : State) : (s.setPowerLow b).table = s.table := rfl
@[simp] theorem State.setPowerLow_pwq (b : Bool) (s : State) : (s.setPowerLow b).pwq = s.pwq := rfl
@[simp] theorem State.setPowerLow_slot (b : Bool) (s : State) : (s.setPowerLow b).slot = s.slot := rfl
@[simp] theorem State.setPowerLow_lineset (b : Bool) (s : State) : (s.setPowerLow b).lineset = s.lineset := rfl
@[simp] theorem State.setPowerLow_master (b : Bool) (s : State) : (s.setPowerLow b).master = s.master := rfl
@[simp] theorem State.setPowerLow_stall (b : Bool) (s : State) : (s.setPowerLow b).stall = s.stall := rfl
@[simp] theorem State.setPowerLow_faults (b : Bool) (s : State) : (s.setPowerLow b).faults = s.faults := rfl
@[simp] theorem State.setPowerLow_inb (b : Bool) (s : State) : (s.setPowerLow b).inb = s.inb := rfl
@[simp] theorem State.setPowerLow_outb (b : Bool) (s : State) : (s.setPowerLow b).outb = s.outb := rfl
@[simp] theorem State.setPowerLow_stream (b : Bool) (s : State) : (s.setPowerLow b).stream = s.stream := rfl
@[simp] theorem State.setPowerLow_settings (b : Bool) (s : State) :
    (s.setPowerLow b).settings = { s.settings with powerLow := b } := rfl
@[simp] theorem State.setPowerLow_events (b : Bool) (s : State) : (s.setPowerLow b).events = s.events := rfl
@[simp] theorem State.setPowerLow_power (b : Bool) (s : State) : (s.setPowerLow b).power = s.power := rfl
@[simp] theorem State.setPowerLow_pins (b : Bool) (s : State) : (s.setPowerLow b).pins = s.pins := rfl
@[simp] theorem State.setPowerLow_now (b : Bool) (s : State) : (s.setPowerLow b).now = s.now := rfl
@[simp] theorem State.setPowerLow_hostReply (b : Bool) (s : State) : (s.setPowerLow b).hostReply = s.hostReply := rfl
@[simp] theorem State.setPowerLow_pending (b : Bool) (s : State) : (s.setPowerLow b).pending = s.pending := rfl

/-! #### grantLevel -/

@[simp] theorem State.grantLevel_table (b : Bool) (s : State) : (s.grantLevel b).table = s.table := rfl
@[simp] theorem State.grantLevel_pwq (b : Bool) (s : State) : (s.grantLevel b).pwq = s.pwq := rfl
@[simp] theorem State.grantLevel_slot (b : Bool) (s : State) : (s.grantLevel b).slot = s.slot := rfl
@[simp] theorem State.grantLevel_lineset (b : Bool) (s : State) : (s.grantLevel b).lineset = s.lineset := rfl
@[simp] theorem State.grantLevel_master (b : Bool) (s : State) : (s.grantLevel b).master = s.master := rfl
@[simp] theorem State.grantLevel_stall (b : Bool) (s : State) : (s.grantLevel b).stall = s.stall := rfl
@[simp] theorem State.grantLevel_faults (b : Bool) (s : State) : (s.grantLevel b).faults = s.faults := rfl
@[simp] theorem State.grantLevel_inb (b : Bool) (s : State) : (s.grantLevel b).inb = s.inb := rfl
@[simp] theorem State.grantLevel_outb (b : Bool) (s : State) : (s.grantLevel b).outb = s.outb := rfl
@[simp] theorem State.grantLevel_stream (b : Bool) (s : State) : (s.grantLevel b).stream = s.stream := rfl
@[simp] theorem State.grantLevel_settings (b : Bool) (s : State) : (s.grantLevel b).settings = s.settings := rfl
@[simp] theorem State.grantLevel_events (b : Bool) (s : State) : (s.grantLevel b).events = s.events := rfl
@[simp] theorem State.grantLevel_power (b : Bool) (s : State) : (s.grantLevel b).power = s.power := rfl
@[simp] theorem State.grantLevel_pins (b : Bool) (s : State) :
    (s.grantLevel b).pins = { s.pins with lbgnt := b } := rfl
@[simp] theorem State.grantLevel_now (b : Bool) (s : State) : (s.grantLevel b).now = s.now := rfl
@[simp] theorem State.grantLevel_hostReply (b : Bool) (s : State) : (s.grantLevel b).hostReply = s.hostReply := rfl
@[simp] theorem State.grantLevel_pending (b : Bool) (s : State) : (s.grantLevel b).pending = s.pending := rfl

/-! #### yieldLevel -/

@[simp] theorem State.yieldLevel_table (b : Bool) (s : State) : (s.yieldLevel b).table = s.table := rfl
@[simp] theorem State.yieldLevel_pwq (b : Bool) (s : State) : (s.yieldLevel b).pwq = s.pwq := rfl
@[simp] theorem State.yieldLevel_slot (b : Bool) (s : State) : (s.yieldLevel b).slot = s.slot := rfl
@[simp] theorem State.yieldLevel_lineset (b : Bool) (s : State) : (s.yieldLevel b).lineset = s.lineset := rfl
@[simp] theorem State.yieldLevel_master (b : Bool) (s : State) : (s.yieldLevel b).master = s.master := rfl
@[simp] theorem State.yieldLevel_stall (b : Bool) (s : State) : (s.yieldLevel b).stall = s.stall := rfl
@[simp] theorem State.yieldLevel_faults (b : Bool) (s : State) : (s.yieldLevel b).faults = s.faults := rfl
@[simp] theorem State.yieldLevel_inb (b : Bool) (s : State) : (s.yieldLevel b).inb = s.inb := rfl
@[simp] theorem State.yieldLevel_outb (b : Bool) (s : State) : (s.yieldLevel b).outb = s.outb := rfl
@[simp] theorem State.yieldLevel_stream (b : Bool) (s : State) : (s.yieldLevel b).stream = s.stream := rfl
@[simp] theorem State.yieldLevel_settings (b : Bool) (s : State) : (s.yieldLevel b).settings = s.settings := rfl
@[simp] theorem State.yieldLevel_events (b : Bool) (s : State) : (s.yieldLevel b).events = s.events := rfl
@[simp] theorem State.yieldLevel_power (b : Bool) (s : State) : (s.yieldLevel b).power = s.power := rfl
@[simp] theorem State.yieldLevel_pins (b : Bool) (s : State) :
    (s.yieldLevel b).pins = { s.pins with lyld := b } := rfl
@[simp] theorem State.yieldLevel_now (b : Bool) (s : State) : (s.yieldLevel b).now = s.now := rfl
@[simp] theorem State.yieldLevel_hostReply (b : Bool) (s : State) : (s.yieldLevel b).hostReply = s.hostReply := rfl
@[simp] theorem State.yieldLevel_pending (b : Bool) (s : State) : (s.yieldLevel b).pending = s.pending := rfl

end Sys2Proof.Machine
end

