-- ==== Sys2Proof/Laws/Access.lean ====
section
/-! SUPPORT. When an access is taken and what a taken one does: the windows, aperture space, the table's checks, the
timers and lines, and the local stream commands. -/

namespace Sys2Proof.Machine

/-! ### Taken accesses (R84, R170, R175, R176) -/

/-- A host write that is taken is answered, and then has its effect. -/
theorem hostWrite_taken {s : State} (h : s.hostCanAct) (f : State → State) : hostWrite f s = f (s.reply .written) := by
  obtain ⟨hp, hh⟩ := h
  simp [hostWrite, hp, hh]

/-- A host read that is taken has its effect. -/
theorem hostRead_taken {s : State} (h : s.hostCanAct) (f : State → State) : hostRead f s = f s := by
  obtain ⟨hp, hh⟩ := h
  simp [hostRead, hp, hh]

/-- A local write that is taken has its effect. -/
theorem localWrite_taken {s : State} (h : s.localCanAct) (f : State → State) : localWrite f s = f s := by
  obtain ⟨hp, hm⟩ := h
  simp [localWrite, State.localOpen, hp, hm]

/-- A line change or an expiry outside power-on reset has its effect. -/
theorem unlessPon_taken {s : State} (h : s.pins.pon = false) (f : State → State) : unlessPon f s = f s := by
  simp [unlessPon, h]

/-- An end of a held Stream Data access is made with no datapath reset in progress, and not made during one. -/
theorem unlessResetting_cases (f : State → State) (s : State) :
    (s.power.resetBusy = false ∧ unlessResetting f s = f s) ∨ (s.power.resetBusy = true ∧ unlessResetting f s = s) := by
  unfold unlessResetting
  cases s.power.resetBusy <;> simp

/-- Every access, line change and expiry answers a next state: the one of `hostWrite`, `hostRead`, `localWrite` and
`unlessPon` differs from the state before it only through the effect they carry. -/
theorem hostWrite_cases (f : State → State) (s : State) :
    hostWrite f s = s.reply .written ∧ s.pins.pon = true ∨ hostWrite f s = s ∧ s.hostHeld = true ∨
      hostWrite f s = f (s.reply .written) ∧ s.hostCanAct := by
  unfold hostWrite State.hostCanAct
  cases hp : s.pins.pon <;> cases hh : s.hostHeld <;> simp

/-- The datapath admits new host work: ACTIVE and no datapath reset in progress (R16). -/
theorem serving_iff (s : State) : s.serving = true ↔ s.power.state = .active ∧ s.power.resetBusy = false := by
  simp [State.serving]

/-! ### Aperture space (R1, R6, R15) -/

/-- An aperture covers an address when it holds its page. -/
theorem covers_iff (ap : Aperture) (a : HostAddr) : ap.covers a = true ↔ ap.holdsPage (a.toNat / 4096) := by
  unfold Aperture.covers Aperture.holdsPage
  rw [Bool.and_eq_true, decide_eq_true_iff, decide_eq_true_iff]
  rfl

/-- Two ranges meet when they share a page. -/
theorem rangesMeet_iff (p : BitVec 12) (n : BitVec 4) (q : BitVec 12) (m : BitVec 4) :
    rangesMeet p n q m = true ↔
      ∃ x, (p.toNat ≤ x ∧ x < p.toNat + pageCount n) ∧ (q.toNat ≤ x ∧ x < q.toNat + pageCount m) := by
  have hn : 0 < pageCount n := Nat.pow_pos (by decide)
  have hm : 0 < pageCount m := Nat.pow_pos (by decide)
  simp [rangesMeet]
  constructor
  · intro ⟨a, b⟩
    exact ⟨max p.toNat q.toNat, by omega⟩
  · rintro ⟨x, h⟩
    omega

/-- The overlap test of OPEN finds a page shared with a live entry. -/
theorem overlaps_iff (s : State) (ap : Aperture) :
    s.overlaps ap = true ↔ ∃ e, ∃ l ∈ s.live e, ∃ p, ap.holdsPage p ∧ l.ap.holdsPage p := by
  simp only [State.overlaps, List.any_eq_true]
  constructor
  · rintro ⟨e, _, h⟩
    cases hl : s.live e with
    | none => simp [hl] at h
    | some l =>
      simp only [hl] at h
      obtain ⟨x, hx⟩ := (rangesMeet_iff ..).1 h
      exact ⟨e, l, by simp [hl], x, hx⟩
  · rintro ⟨e, l, hl, p, h1, h2⟩
    refine ⟨e, (by decide : ∀ e, e ∈ allEntries) e, ?_⟩
    have hl : s.live e = some l := hl
    simp only [hl]
    exact (rangesMeet_iff ..).2 ⟨p, h1, h2⟩

/-- No entry covers an address whose page no live entry holds. -/
theorem covering_none {s : State} {a : HostAddr}
    (h : ∀ e, ∀ l ∈ s.live e, ¬ l.ap.holdsPage (a.toNat / 4096)) : s.covering a = none := by
  simp only [State.covering, List.findSome?_eq_none_iff]
  intro e _
  split
  · rename_i l hl
    rw [if_neg (by rw [covers_iff]; exact h e l hl)]
  · rfl

/-- Under the law of R6 the entry that holds an address's page is the one that covers it. -/
theorem covering_some {s : State} {a : HostAddr} {e : EntryIdx} {l : LiveEntry} (ha : s.apertureLaw)
    (hl : s.live e = some l) (hc : l.ap.holdsPage (a.toNat / 4096)) : s.covering a = some (e, l) := by
  have hmem : e ∈ allEntries := (by decide : ∀ e, e ∈ allEntries) e
  have h1 : (s.covering a).isSome = true := by
    simp only [State.covering, List.findSome?_isSome_iff]
    refine ⟨e, hmem, ?_⟩
    simp only [hl]
    rw [if_pos ((covers_iff ..).2 hc)]
    rfl
  obtain ⟨⟨f, m⟩, hf⟩ := Option.isSome_iff_exists.1 h1
  rw [hf]
  simp only [State.covering] at hf
  obtain ⟨g, _, hg⟩ := List.exists_of_findSome?_eq_some hf
  split at hg
  · rename_i k hk
    split at hg
    · rename_i hcov
      simp at hg
      obtain ⟨rfl, rfl⟩ := hg
      by_cases hge : g = e
      · subst hge
        rw [hl] at hk
        cases hk
        rfl
      · exact absurd ⟨(covers_iff ..).1 hcov, hc⟩ (ha.2 g e hge k hk l hl _)
    · simp at hg
  · simp at hg

/-! ### Local addresses and lanes (R15, R20, R21) -/

/-- The host address in numbers: the halfword address, plus one when HUB alone is asserted (R15). -/
theorem hostAddress_toNat (ha : BitVec 23) (st : Strobes) :
    (hostAddress ha st).toNat = 2 * ha.toNat + (if st.hlb then 0 else 1) := by
  unfold hostAddress bit
  rw [BitVec.toNat_append, ← Nat.shiftLeft_add_eq_or_of_lt]
  · cases st.hlb <;> simp [Nat.shiftLeft_eq] <;> omega
  · cases st.hlb <;> simp

/-- A local address rounded down to a multiple of 4 (R20). -/
theorem wordOf_toNat (a : Word) : (wordOf a).toNat = a.toNat / 4 * 4 := by
  have h : wordOf a = (a >>> 2) <<< 2 := by
    unfold wordOf
    ext i hi
    interval_cases i <;> simp
  rw [h, BitVec.toNat_shiftLeft, BitVec.toNat_ushiftRight, Nat.shiftRight_eq_div_pow, Nat.shiftLeft_eq]
  have := a.isLt
  omega

/-- The local byte address in numbers, for an address the aperture covers (R20). -/
theorem localByte_toNat {ap : Aperture} {a : HostAddr} (h : ap.holdsPage (a.toNat / 4096)) :
    (ap.localByte a).toNat = (4096 * ap.base.toNat + (a.toNat - 4096 * ap.page.toNat)) % 2 ^ 32 := by
  have h1 := h.1
  have hb := ap.base.isLt
  have hp := ap.page.isLt
  have ha := a.isLt
  unfold Aperture.localByte Aperture.localBase
  rw [BitVec.toNat_add, BitVec.toNat_sub, BitVec.toNat_shiftLeft, BitVec.toNat_setWidth, BitVec.toNat_setWidth,
    BitVec.toNat_append]
  simp only [Nat.shiftLeft_eq]
  have : (ap.base.toNat * 2 ^ 12 ||| (0#12).toNat) = ap.base.toNat * 4096 := by simp
  rw [this]
  omega

/-- The lane of the even byte is the host halfword address modulo 4 (R21). -/
theorem evenLane_cases (ha : BitVec 23) :
    (2 * ha.toNat % 4 = 0 ∧ evenLane ha = 0#2) ∨ (2 * ha.toNat % 4 = 2 ∧ evenLane ha = 2#2) := by
  have : ha.getLsbD 0 = decide (ha.toNat % 2 = 1) := by simp [BitVec.getLsbD, Nat.testBit_zero]
  unfold evenLane
  rw [this]
  by_cases h : ha.toNat % 2 = 1 <;> simp [h] <;> omega

/-! ### Table commands (R5) -/

/-- A table command whose checks give a result other than OK writes the result and nothing else. -/
theorem tableAccess_turned {s : State} {w : Window} {c : TableCmd} {r : Result} (h : s.canCommand w)
    (hr : s.tableCmdResult w c = r) (hne : r ≠ .ok) : tableAccess w c s = s.tableDone w r := by
  cases w
  · have h : s.hostCanAct := h
    have hr : (s.reply .written).tableCmdResult .host c = r := hr
    unfold tableAccess
    rw [hostWrite_taken h]
    unfold State.tableCommand
    rw [hr]
    simp only [hne, if_false]
    rfl
  · have h : s.localCanAct := h
    unfold tableAccess
    rw [localWrite_taken h]
    unfold State.tableCommand
    rw [hr]
    simp only [hne, if_false]
    rfl

/-- A table command that passes its checks has its effect and the result OK. -/
theorem tableAccess_taken {s : State} {w : Window} {c : TableCmd} (h : s.canCommand w)
    (hr : s.tableCmdResult w c = .ok) :
    tableAccess w c s =
      match w with
      | .host => ((s.reply .written).tableEffect .host c).tableResult .host .ok
      | .loc => (s.tableEffect .loc c).tableResult .loc .ok := by
  cases w
  · have h : s.hostCanAct := h
    have hr : (s.reply .written).tableCmdResult .host c = .ok := hr
    unfold tableAccess
    rw [hostWrite_taken h]
    simp [State.tableCommand, hr]
  · have h : s.localCanAct := h
    unfold tableAccess
    rw [localWrite_taken h]
    simp [State.tableCommand, hr]

/-- With the right to edit and no datapath reset in progress, a command's result is that of its own checks. -/
theorem tableCmdResult_own {s : State} {w : Window} {c : TableCmd} (hb : s.power.resetBusy = false)
    (he : s.mayEdit w) (hc : c ≠ .setEditableCmd) :
    s.tableCmdResult w c =
      match c with
      | .openCmd => s.openResult (s.staging w)
      | .closeCmd => s.closeResult (s.staging w).target
      | .resumeCmd => s.resumeResult (s.staging w).target
      | .retargetCmd => s.retargetResult (s.staging w).target
      | .setEditableCmd => .ok := by
  have rights : s.tableRightsResult w c = .ok := by
    cases w
    · obtain ⟨a, b⟩ := he
      have b : (s.table.entries[(s.staging .host).target]).editable = true := b
      simp only [State.tableRightsResult, hb, State.tableRights, a]
      simp [hc]
      exact b
    · simp [State.tableRightsResult, hb]
  cases c <;> simp [State.tableCmdResult, rights]

/-- Pending work of an entry, in the words of R9. -/
theorem pendingWork_iff (s : State) (e : EntryIdx) :
    s.pendingWork e = true ↔
      (∃ r ∈ s.pwq.records, r.entry = e) ∨ (∃ q, s.pwq.held = .slotWait q ∧ q.entry = e) ∨
        (∃ r ∈ s.slot.record, r.entry = e) ∨ (∃ o ∈ s.slot.orphan, o.entry = e) := by
  have any_iff {α : Type} (o : Option α) (p : α → Bool) : o.any p = true ↔ ∃ a ∈ o, p a = true := by
    cases o <;> simp
  unfold State.pendingWork State.hasRecord State.slotWaiting
  simp only [Bool.or_eq_true, List.any_eq_true, any_iff, decide_eq_true_eq, or_assoc]
  cases s.pwq.held <;> simp

/-! ### Local stream commands (section 6.2) -/

/-- A local stream command answers BUSY during a datapath reset. -/
theorem streamCommand_busy {s : State} (h : s.power.resetBusy = true) (f : State → State) :
    s.streamCommand f = s.localStreamResult .busy := by
  simp [State.streamCommand, h]

/-- A local stream command is taken outside a datapath reset. -/
theorem streamCommand_taken {s : State} (h : s.power.resetBusy = false) (f : State → State) :
    s.streamCommand f = f s := by
  simp [State.streamCommand, h]

/-- A valid ring, in the words of R106. -/
theorem ringValid_iff (b : BitVec 24) (z : BitVec 4) :
    ringValid b z = true ↔ z.toNat ≤ 8 ∧ (b ++ 0#8).toNat % (256 * 2 ^ z.toNat) = 0 := by
  unfold ringValid ringBase ringSize
  rw [Bool.and_eq_true, decide_eq_true_iff, decide_eq_true_iff]

/-! ### Negotiated settings (R131 to R135) -/

/-- Reading a setting after a store. -/
theorem neg_setNeg (g : Settings) (n m : NegSetting) (v : Negotiated) :
    (g.setNeg n v).neg m = if m = n then v else g.neg m := by
  cases n <;> cases m <;> rfl

/-- A store of a setting leaves the Proposal List. -/
@[simp] theorem setNeg_proposals (g : Settings) (n : NegSetting) (v : Negotiated) :
    (g.setNeg n v).proposals = g.proposals := by
  cases n <;> rfl

/-- A change of the Proposal List leaves every setting. -/
@[simp] theorem neg_proposals (g : Settings) (l : List Proposal) (m : NegSetting) :
    Settings.neg { g with proposals := l } m = g.neg m := by
  cases m <;> rfl

/-- The range of a setting (R127). -/
theorem inRange_iff (n : NegSetting) (v : BitVec 4) :
    inRange n v = true ↔ v.toNat ≤ if n = .attentionRoute then 2 else 1 := by
  cases n <;> simp [inRange]

/-- Under the law of R134 a proposal of the list is the one its setting finds. -/
theorem proposal?_of_mem {s : State} {p : Proposal} (hl : s.proposalLaw) (hp : p ∈ s.settings.proposals) :
    s.settings.proposal? p.setting = some p := by
  obtain ⟨h1, _⟩ := hl
  unfold Settings.proposal?
  revert hp h1
  generalize s.settings.proposals = l
  induction l with
  | nil => simp
  | cons a l ih =>
    intro hp h1
    rw [List.find?_cons]
    by_cases ha : a.setting = p.setting
    · simp [ha]
      rcases List.mem_cons.1 hp with rfl | hp
      · rfl
      · exact absurd ha ((List.pairwise_cons.1 h1).1 p hp)
    · simp [ha]
      have := ih ((List.mem_cons.1 hp).resolve_left (by rintro rfl; exact ha rfl)) (List.pairwise_cons.1 h1).2
      simpa using this

/-- The settings that an answer may not name (R135). -/
theorem negOf_none_iff (i : BitVec 3) : negOf i = none ↔ i.toNat < 4 := by
  revert i
  decide

end Sys2Proof.Machine
end

