-- ==== Sys2Proof/Laws/Bus.lean ====
section
/-! SUPPORT. What the Local Bus Master's operations do, each said once: the arbiter, the issue of a transfer, the
tests made after an event, the settling of the bus and the end of a transfer. -/

namespace Sys2Proof.Machine

/-! ### The arbiter (R77, R78) -/

/-- A client has a transfer in flight. -/
theorem inFlight_iff (s : State) (c : Client) : s.inFlight c = true ↔ ∃ x ∈ s.master.transfer, x.client = c := by
  unfold State.inFlight
  cases s.master.transfer <;> simp

/-- With no client eligible the arbiter has no choice. -/
theorem choose_none {s : State} (h : s.anyEligible = false) : s.choose = none := by
  simp [State.anyEligible, State.streamEligible] at h
  simp [State.choose, State.streamEligible, h]

/-- The arbiter chooses among the eligible clients only. -/
theorem choose_eligible {s : State} {c : Client} (h : s.choose = some c) : s.eligible c = true := by
  have winner : s.streamEligible = true → s.eligible s.streamWinner = true := by
    intro hs
    unfold State.streamEligible at hs
    unfold State.streamWinner
    cases hi : s.eligible .inbound <;> cases ho : s.eligible .outbound <;> simp_all
    cases s.master.lastStream <;> simp_all
  unfold State.choose at h
  split at h
  · rename_i hc
    cases h
    exact winner hc.2
  · split at h
    · cases h
      assumption
    · split at h
      · cases h
        assumption
      · split at h
        · cases h
          exact winner (by assumption)
        · cases h

/-- The arbiter has a choice when a client is eligible. -/
theorem choose_isSome {s : State} (h : s.anyEligible = true) : s.choose.isSome = true := by
  unfold State.choose
  split
  · rfl
  · split
    · rfl
    · split
      · rfl
      · split
        · rfl
        · simp_all [State.anyEligible]

/-- No client is eligible while a datapath reset is in progress (R77). -/
theorem eligible_busy {s : State} (h : s.power.resetBusy = true) (c : Client) : s.eligible c = false := by
  simp [State.eligible, h]

/-! ### What an issue leaves alone (R35, R48, R112, R117) -/

/-- An issue changes the master, the queue's head, the slot, the chosen line and the void mark only. -/
theorem issue_frame (c : Client) (s : State) :
    { s.issue c with
      master := s.master, pwq := s.pwq, slot := s.slot, lineset := s.lineset, outb := s.outb } = s := by
  unfold State.issue
  cases c
  · simp only [State.account, State.issueRead]
    split
    · split <;> rfl
    · rfl
  · simp only [State.account, State.issueWrite]
    split <;> rfl
  · rfl
  · rfl

/-- An issue keeps the ownership state that its caller stored. -/
theorem issue_own (c : Client) (s : State) : (s.issue c).master.own = s.master.own := by
  unfold State.issue
  cases c
  · simp only [State.account, State.issueRead]
    split
    · split <;> rfl
    · rfl
  · simp only [State.account, State.issueWrite]
    split <;> rfl
  · rfl
  · rfl

/-- The issue of an eligible client puts a transfer of that client in flight. -/
theorem issue_transfer {c : Client} {s : State} (h : s.eligible c = true) :
    ∃ x, (s.issue c).master.transfer = some x ∧ x.client = c ∧ x.beatsDone = 0 ∧ x.discard = false := by
  unfold State.issue
  cases c
  · cases hr : s.slot.record with
    | none => simp [State.eligible, hr] at h
    | some r => cases hk : r.kind <;> simp [State.account, State.issueRead, hr, hk]
  · cases hr : s.pwq.records with
    | nil => simp [State.eligible, hr] at h
    | cons r rest => simp [State.account, State.issueWrite, hr]
  · simp [State.account, State.issueMove]
  · simp [State.account, State.issueFetch]

/-! ### The tests after an event (R69, R70, R72) -/

/-- Everything the tests can do: nothing, begin a request, end one, or issue the chosen client's transfer. -/
theorem poll_cases (s : State) :
    s.poll = s ∨ s.poll = s.enterRequesting ∨ s.poll = s.release ∨
      ∃ c o, (s.enterRequesting.choose = some c ∨ s.choose = some c) ∧
        (s.poll = (s.setOwn o).issue c ∨ s.poll = (s.enterRequesting.setOwn o).issue c) := by
  unfold State.poll
  split
  · split
    · split
      · unfold State.takeGrant
        split
        · rename_i c hc
          exact .inr (.inr (.inr ⟨c, _, .inl hc, .inr rfl⟩))
        · exact .inr (.inr (.inl rfl))
      · exact .inr (.inl rfl)
    · exact .inl rfl
  · split
    · split
      · unfold State.takeGrant
        split
        · rename_i c hc
          exact .inr (.inr (.inr ⟨c, _, .inr hc, .inl rfl⟩))
        · exact .inr (.inr (.inl rfl))
      · exact .inl rfl
    · exact .inr (.inr (.inl rfl))
  · split
    · rename_i c hc
      exact .inr (.inr (.inr ⟨c, _, .inr hc, .inl rfl⟩))
    · exact .inl rfl
  · exact .inl rfl
  · exact .inl rfl

/-- The tests change the master, the queue's head, the slot, the lines and the void mark only. -/
theorem poll_frame (s : State) :
    { s.poll with master := s.master, pwq := s.pwq, slot := s.slot, lineset := s.lineset, outb := s.outb } = s := by
  rcases poll_cases s with h | h | h | ⟨c, o, _, h | h⟩
  · rw [h]
  · rw [h]
    rfl
  · rw [h]
    rfl
  · rw [h]
    have := issue_frame c (s.setOwn o)
    revert this
    generalize (s.setOwn o).issue c = t
    intro ht
    cases t
    cases s
    simp_all [State.setOwn]
  · rw [h]
    have := issue_frame c (s.enterRequesting.setOwn o)
    revert this
    generalize (s.enterRequesting.setOwn o).issue c = t
    intro ht
    cases t
    cases s
    simp_all [State.setOwn, State.enterRequesting]

/-- In a state where nothing is left standing the tests change nothing. -/
theorem poll_settled (s : State) (h : s.settledLaw) : s.poll = s := by
  obtain ⟨_, h1, h2, h3⟩ := h
  unfold State.poll
  split
  · rename_i ho
    have := h1 ho
    simp only [Bool.and_eq_true, Bool.not_eq_true', and_assoc]
    rw [if_neg this]
  · rename_i n p ho
    obtain ⟨ha, hb⟩ := h2 _ _ ho
    simp [ha, hb]
  · rename_i t ho
    simp [choose_none (h3 _ ho)]
  · rfl
  · rfl

/-! ### The end of a transfer (R65 to R67) -/

/-- The last LACK of a transfer whose result goes to its client. -/
theorem takeLack_last {s : State} {x : Transfer} (ld : Word) (hb : s.power.resetBusy = false)
    (hx : s.master.transfer = some x) (hd : x.discard = false) (hl : x.beats.length ≤ x.beatsDone + 1) :
    s.takeLack ld =
      (State.deliverOk (x.acked ld s.beatTimer) { s with master := { s.master with transfer := none } }).settle
        (s.transferHold x) := by
  unfold State.takeLack
  rw [hx]
  simp only
  rw [if_neg (by simpa [Transfer.acked] using hl)]
  have : (x.acked ld s.beatTimer).discard = false := hd
  simp only [State.endTransfer, this, hb, Bool.false_eq_true, if_false]
  rfl

/-- A failed beat of a transfer whose result goes to its client. -/
theorem failBeat_ends {s : State} {x : Transfer} (k : FaultKind) (hb : s.power.resetBusy = false)
    (hx : s.master.transfer = some x) (hd : x.discard = false) :
    s.failBeat k =
      (State.deliverFailure x k { s with master := { s.master with transfer := none } }).settle
        (s.transferHold x) := by
  unfold State.failBeat
  rw [hx]
  simp only [State.endTransfer, hd, hb, Bool.false_eq_true, if_false]

end Sys2Proof.Machine
end

