-- ==== Sys2Proof/Laws/Channels.lean ====
section
/-! SUPPORT. What the operations over a waiting read, a waiting write, the stream channels and a wake can do, each said
once. -/

namespace Sys2Proof.Machine

/-! ### A write that waits (R14, R31, R32, R34) -/

/-- A classified write is admitted and answered, admitted and held for its record, or held for a slot. -/
theorem offerWrite_cases (w : HostWrite) (s : State) :
    (∃ t, s.place w = some t ∧ w.strict = false ∧ s.offerWrite w = t) ∨
    (∃ t, s.place w = some t ∧ w.strict = true ∧
      s.offerWrite w = (t.setHeld (.recordWait s.pwq.seq)).holdHost .pwq) ∨
    (s.place w = none ∧ s.offerWrite w = (s.setHeld (.slotWait w)).holdHost .pwq) := by
  unfold State.offerWrite
  cases h : s.place w with
  | none => exact .inr (.inr ⟨rfl, rfl⟩)
  | some t => cases hs : w.strict <;> simp

/-- A retry changes nothing unless a write waits for a slot; then it is ended, admitted, or left waiting. -/
theorem retryWaiting_cases (s : State) :
    s.retryWaiting = s ∨ ∃ w, s.pwq.held = .slotWait w ∧
      ((s.isOpen w.entry = false ∧ s.retryWaiting = s.endWaiting w) ∨
        ∃ t, s.isOpen w.entry = true ∧ s.place w = some t ∧
          s.retryWaiting =
            if w.strict then t.setHeld (.recordWait s.pwq.seq) else (t.setHeld .none).releaseHost .written) := by
  unfold State.retryWaiting
  cases s.pwq.held with
  | none => exact .inl rfl
  | recordWait q => exact .inl rfl
  | slotWait w =>
    cases ho : s.isOpen w.entry with
    | false => exact .inr ⟨w, rfl, .inl ⟨ho, by simp [ho]⟩⟩
    | true =>
      cases ha : s.place w with
      | none => exact .inl (by simp [ho, ha])
      | some t => exact .inr ⟨w, rfl, .inr ⟨t, ho, ha, by simp [ho, ha]⟩⟩

/-! ### A read that waits (R47, R52, R57) -/

/-- The test of the ordering condition moves a record in ORDER_WAIT to BUS_WAIT, answers it as a late hit, or changes
nothing. -/
theorem testOrder_cases (s : State) :
    s.testOrder = s ∨ ∃ r, s.slot.record = some r ∧ r.phase = .orderWait ∧ s.pwq.records = [] ∧ s.slot.orphan = none ∧
      (s.testOrder = s.setRead (some { r with phase := .busWait }) ∨
        ∃ d, r.kind = .line ∧ s.linePermit = true ∧ s.lineset.serves r.entry r.word = some d ∧
          s.testOrder = s.answerRead r d) := by
  unfold State.testOrder
  cases hr : s.slot.record with
  | none => exact .inl rfl
  | some r =>
    by_cases hc : r.phase = .orderWait ∧ s.pwq.records = [] ∧ s.slot.orphan = none
    · refine .inr ⟨r, rfl, hc.1, hc.2.1, hc.2.2, ?_⟩
      simp only [hc, and_self, if_true]
      by_cases hk : r.kind = .line ∧ s.linePermit = true
      · rw [if_pos hk]
        cases hd : s.lineset.serves r.entry r.word with
        | none => exact .inl rfl
        | some d => exact .inr ⟨d, hk.1, hk.2, rfl, rfl⟩
      · rw [if_neg hk]
        exact .inl rfl
    · exact .inl (by simp only [hc, if_false])

/-- A suspension ends a read of the entry in ORDER_WAIT with filler, and no other. -/
theorem fillSuspended_cases (e : EntryIdx) (s : State) :
    s.fillSuspended e = s ∨
      ∃ r, s.slot.record = some r ∧ r.phase = .orderWait ∧ r.entry = e ∧ s.fillSuspended e = s.fillRead := by
  unfold State.fillSuspended
  cases hr : s.slot.record with
  | none => exact .inl rfl
  | some r =>
    by_cases hc : r.phase = .orderWait ∧ r.entry = e
    · exact .inr ⟨r, rfl, hc.1, hc.2, by simp only [hc, and_self, if_true]⟩
    · exact .inl (by simp only [hc, if_false])

/-! ### The inbound channel (R109, R110, R113) -/

/-- The retry of a held Stream Data write enters all its bytes and releases the host, or changes nothing. -/
theorem retryStream_cases (s : State) :
    s.retryStream = s ∨ ∃ bytes, s.inb.held = some bytes ∧ bytes.length ≤ s.inb.room ∧
      s.retryStream = ((s.setInb { s.inb with held := none }).enterBytes bytes).releaseHost .written := by
  unfold State.retryStream
  cases hh : s.inb.held with
  | none => exact .inl rfl
  | some bytes =>
    by_cases hc : bytes.length ≤ s.inb.room
    · exact .inr ⟨bytes, rfl, hc, by simp only [hc, if_true]⟩
    · exact .inl (by simp only [hc, if_false])

/-- The end of a held Stream Data write with the channel leaving RUNNING, as one update. -/
theorem endHeldStream_eq (s : State) :
    s.endHeldStream = { s with
      inb := { s.inb with held := none, damaged := s.inb.damaged || s.inb.held.isSome }
      stream := { s.stream with refused := s.stream.refused || s.inb.held.isSome }
      hostReply := if s.inb.held.isSome then .written else s.hostReply
      stall := if s.inb.held.isSome then none else s.stall } := by
  obtain ⟨a, b, c, d, e, f, g, inb, i, j, k, l, m, n, o, p, q⟩ := s
  obtain ⟨i1, i2, held, i4, i5, i6, i7, i8, i9, i10, i11, i12, i13⟩ := inb
  cases held <;>
    simp [State.endHeldStream, State.damage, State.flagRefused, State.releaseHost, State.setInb]

/-- The end of a held Stream Data write with IN_MODE becoming DROP, as one update. -/
theorem dropHeldStream_cases (s : State) :
    (s.inb.held = none ∧ s.dropHeldStream = s) ∨
    (s.inb.held.isSome = true ∧ s.dropHeldStream = { s with
      inb := { s.inb with held := none, damaged := true }, stream := { s.stream with dropped := true }
      hostReply := .written, stall := none }) := by
  unfold State.dropHeldStream
  cases s.inb.held with
  | none => exact .inl ⟨rfl, rfl⟩
  | some b => exact .inr ⟨rfl, rfl⟩

/-- A channel that is OFF or FLUSHING is not changed by an IN_STOP; the two others stop. -/
theorem stopIn_cases (s : State) :
    (s.inb.state = .running ∧ s.stopIn = s.stopRunningIn) ∨ (s.inb.state = .halted ∧ s.stopIn = s.stopHaltedIn) ∨
    ((s.inb.state = .off ∨ s.inb.state = .flushing) ∧ s.stopIn = s) := by
  unfold State.stopIn
  cases s.inb.state <;> simp

/-! ### The outbound channel (R107, R118 to R120) -/

/-- A held read judged anew is answered and released, or stays as it is. -/
theorem judgeRead_cases (s : State) :
    s.judgeRead = s ∨ ∃ st, s.outb.held = some st ∧ 0 < streamTake st s.outb.available ∧
      streamTake st s.outb.available ≤ s.outb.fifo.length ∧
      s.judgeRead = (s.setOutb { s.outb.taken (streamTake st s.outb.available) with held := none }).releaseHost
        (s.outb.readReply st (streamTake st s.outb.available)) := by
  unfold State.judgeRead
  cases hh : s.outb.held with
  | none => exact .inl rfl
  | some st =>
    by_cases hc : 0 < streamTake st s.outb.available ∧ streamTake st s.outb.available ≤ s.outb.fifo.length
    · exact .inr ⟨st, rfl, hc.1, hc.2, by simp only [hc, and_self, if_true]⟩
    · exact .inl (by simp only [hc, if_false])

/-- The end of a held Stream Data read with the channel leaving RUNNING, as one update. -/
theorem endHeldRead_eq (s : State) :
    s.endHeldRead = { s with
      outb := { s.outb with held := none }
      stream := { s.stream with refused := s.stream.refused || s.outb.held.isSome }
      hostReply := if s.outb.held.isSome then fillerReply else s.hostReply
      stall := if s.outb.held.isSome then none else s.stall } := by
  obtain ⟨a, b, c, d, e, f, g, h, outb, j, k, l, m, n, o, p, q⟩ := s
  obtain ⟨o1, o2, held, o4, o5, o6, o7, o8, o9, o10, o11⟩ := outb
  cases held <;> simp [State.endHeldRead, State.flagRefused, State.releaseHost, State.setOutb]

/-- Only a fetch in flight is made void. -/
theorem voidFetch_cases (s : State) :
    (s.inFlight .outbound = true ∧ s.voidFetch = s.setOutb { s.outb with fetchVoid := true }) ∨
    (s.inFlight .outbound = false ∧ s.voidFetch = s) := by
  unfold State.voidFetch
  cases s.inFlight .outbound <;> simp

/-- A successful fetch is applied and the held read judged, unless it is void. -/
theorem fetchDone_cases (n : Nat) (bytes : List Byte) (s : State) :
    (s.outb.fetchVoid = true ∧ s.fetchDone n bytes = s) ∨
    (s.outb.fetchVoid = false ∧ s.fetchDone n bytes = (s.setOutb (s.outb.fetched bytes n)).judgeRead) := by
  unfold State.fetchDone
  cases s.outb.fetchVoid <;> simp

/-- A channel that is OFF is not changed by an OUT_STOP; the others stop. -/
theorem stopOut_cases (s : State) :
    (s.outb.state = .off ∧ s.stopOut = s) ∨ (s.outb.state ≠ .off ∧ s.stopOut = s.stopRunningOut) := by
  unfold State.stopOut
  cases s.outb.state <;> simp

/-! ### A wake (R167) -/

/-- A wake source wakes a DORMANT module and no other; every cause but HOST_REQUEST sets S1 and latches host POWER. -/
theorem wakeBy_cases (c : WakeCause) (s : State) :
    (s.power.state ≠ .dormant ∧ s.wakeBy c = s) ∨
    (s.power.state = .dormant ∧ s.wakeBy c = { s with
      power := { s.power with state := .waking, cause := some c }
      settings := if c = .hostRequest then s.settings else { s.settings with powerLow := false }
      events := { s.events with
        host := if c = .hostRequest then s.events.host else { s.events.host with power := true }
        loc := { s.events.loc with wake := true } } }) := by
  unfold State.wakeBy
  by_cases h : s.power.state = .dormant
  · refine .inr ⟨h, ?_⟩
    rw [if_pos h]
    by_cases hc : c = .hostRequest <;> simp [hc, State.latchWake, State.latchPower]
  · exact .inl ⟨h, by rw [if_neg h]⟩

/-- A host access is taken as a wake source under WAKE_ON_ACCESS. -/
theorem offerAccess_cases (s : State) :
    (s.power.wakeOnAccess = false ∧ s.offerAccess = s) ∨
    (s.power.wakeOnAccess = true ∧ s.offerAccess = s.wakeBy .hostAccess) := by
  unfold State.offerAccess
  cases s.power.wakeOnAccess <;> simp

end Sys2Proof.Machine
end

