-- ==== Sys2Proof/Laws/Queue.lean ====
section
/-! SUPPORT. What the operations over entries, lines, fault records and the Posted Write Queue do, each said once. -/

namespace Sys2Proof.Machine

/-! ### Entries (R1, R2) -/

/-- Reading back an entry that was stored. -/
@[simp] theorem live_setLive_self (s : State) (e : EntryIdx) (l : Option LiveEntry) : (s.setLive e l).live e = l := by
  simp [State.live, State.setLive]

/-- Every other entry is left alone. -/
theorem entries_setLive_ne (s : State) {e f : EntryIdx} (l : Option LiveEntry) (h : f ≠ e) :
    (s.setLive e l).table.entries[f] = s.table.entries[f] := by
  have : ¬ e.val = f.val := fun h' => h (Fin.ext h'.symm)
  simp [State.setLive, this]

/-- What every other entry holds is left alone. -/
theorem live_setLive_ne (s : State) {e f : EntryIdx} (l : Option LiveEntry) (h : f ≠ e) :
    (s.setLive e l).live f = s.live f := congrArg Entry.live (entries_setLive_ne s l h)

/-- A store of what an entry holds keeps its host-editable field. -/
theorem editable_setLive (s : State) (e : EntryIdx) (l : Option LiveEntry) :
    ((s.setLive e l).table.entries[e]).editable = (s.table.entries[e]).editable := by
  simp [State.setLive]

/-- A slide changes the one entry, whose phase and refused count it keeps (R22). -/
theorem slideAt_cases (e : EntryIdx) (w : Word) (s : State) :
    s.slideAt e w = s ∨
      ∃ l, s.live e = some l ∧ l.phase = .opened ∧ l.ap.slide = true ∧ w = l.ap.finalWord ∧
        s.slideAt e w = s.setLive e (some { l with ap := l.ap.slid, slideCount := l.slideCount + 1 }) := by
  unfold State.slideAt
  split
  · rename_i l hl
    split
    · rename_i h
      exact .inr ⟨l, hl, h.1, h.2.1, h.2.2, rfl⟩
    · exact .inl rfl
  · exact .inl rfl

/-- A slide changes nothing but the table. -/
theorem slideAt_frame (e : EntryIdx) (w : Word) (s : State) :
    { s.slideAt e w with table := s.table } = s := by
  rcases slideAt_cases e w s with h | ⟨l, _, _, _, _, h⟩
  · rw [h]
  · rw [h]
    rfl

/-- A slide commutes with an operation that leaves what entries hold alone and commutes with a store of it. -/
theorem slideAt_comm (e : EntryIdx) (w : Word) (f : State → State) (h : ∀ t, (f t).live e = t.live e)
    (hs : ∀ t l, f (t.setLive e l) = (f t).setLive e l) (s : State) : f (s.slideAt e w) = (f s).slideAt e w := by
  unfold State.slideAt
  rw [h]
  split
  · split
    · exact hs ..
    · rfl
  · rfl

/-! ### Lines (R54) -/

/-- A cause strikes each line it names and leaves the other. -/
theorem strikeIf_line (ls : LineSet) (p : Line → Bool) (i : LineIdx) :
    (ls.strikeIf p).line i = if p (ls.line i) then (ls.line i).strike else ls.line i := by
  unfold LineSet.strikeIf LineSet.line
  split <;> rfl

/-- Reading a line after a store. -/
theorem line_setLine (ls : LineSet) (i j : LineIdx) (l : Line) :
    (ls.setLine i l).line j = if j = i then l else ls.line j := by
  fin_cases i <;> fin_cases j <;> rfl

/-- A struck line holds no good word. -/
theorem strike_holds (l : Line) : l.strike.holds = none := by
  cases l <;> rfl

/-! ### Fault records (R91) -/

/-- A fault record is appended or counted as lost; nothing else changes. -/
theorem fault_cases (r : FaultRecord) (s : State) :
    (s.faults.queue.length < 4 ∧
      s.fault r = { s with faults := { s.faults with queue := s.faults.queue ++ [r] } }) ∨
    (4 ≤ s.faults.queue.length ∧ s.fault r = { s with faults := { s.faults with lost := satInc s.faults.lost } }) := by
  unfold State.fault
  split
  · exact .inl ⟨by assumption, rfl⟩
  · rename_i h
    exact .inr ⟨Nat.le_of_not_lt h, rfl⟩

/-- A fault record changes nothing but the fault unit. -/
theorem fault_frame (r : FaultRecord) (s : State) : { s.fault r with faults := s.faults } = s := by
  rcases fault_cases r s with ⟨_, h⟩ | ⟨_, h⟩ <;> rw [h]

/-- The Fault Queue stays within its four places. -/
theorem fault_bound (r : FaultRecord) (s : State) (h : s.faults.queue.length ≤ 4) :
    (s.fault r).faults.queue.length ≤ 4 := by
  rcases fault_cases r s with ⟨hl, e⟩ | ⟨_, e⟩ <;> rw [e]
  · simpa using hl
  · exact h

/-! ### Combining and admission (R29, R30) -/

/-- A write that can combine changes the tail record only. -/
theorem combineTail_some (w : HostWrite) (older : List WriteRecord) (t : WriteRecord) (h : canCombine w t = true) :
    combineTail w (older ++ [t]) = some (older ++ [mergeWrite w t]) := by
  induction older with
  | nil => simp [combineTail, h]
  | cons a l ih =>
    cases hh : l ++ [t] with
    | nil => simp at hh
    | cons b m => rw [List.cons_append, hh, combineTail, ← hh, ih]; simp

/-- A write that cannot combine with the tail does not combine. -/
theorem combineTail_none (w : HostWrite) (rs : List WriteRecord)
    (h : ∀ older t, rs = older ++ [t] → canCombine w t = false) : combineTail w rs = none := by
  rcases List.eq_nil_or_concat rs with rfl | ⟨older, t, rfl⟩
  · rfl
  · rw [List.concat_eq_append] at *
    have ht := h older t rfl
    clear h
    induction older with
    | nil => simp [combineTail, ht]
    | cons a l ih =>
      cases hh : l ++ [t] with
      | nil => simp at hh
      | cons b m => rw [List.cons_append, hh, combineTail, ← hh, ih]; simp

/-- What an admission does: the records and the counter, then the lines and the slide of the word; there is none
exactly when the write must wait for a slot (R29 to R31). -/
theorem place_cases (w : HostWrite) (s : State) :
    (∃ rs, combineTail w s.pwq.records = some rs ∧
      s.place w = some (({ s with pwq := { s.pwq with records := rs } } : State).admitted w)) ∨
    (combineTail w s.pwq.records = none ∧ s.pwq.records.length < 16 ∧
      s.place w = some (({ s with pwq := { s.pwq with
        records := s.pwq.records ++ [newRecord w s.pwq.seq], seq := s.pwq.seq + 1 } } : State).admitted w)) ∨
    (combineTail w s.pwq.records = none ∧ 16 ≤ s.pwq.records.length ∧ s.place w = none) := by
  unfold State.place
  cases h : combineTail w s.pwq.records with
  | some rs => exact .inl ⟨rs, rfl, rfl⟩
  | none =>
    by_cases hl : s.pwq.records.length < 16
    · exact .inr (.inl ⟨rfl, hl, by simp [hl]⟩)
    · exact .inr (.inr ⟨rfl, by omega, by simp [hl]⟩)

/-! ### Leaving records (R12, R36) -/

/-- The host held on one of some sequence numbers is released, and nothing else is touched. -/
theorem releaseWaiter_cases (seqs : List (BitVec 8)) (s : State) :
    (∃ q ∈ seqs, s.pwq.held = .recordWait q) ∧ s.releaseWaiter seqs = (s.setHeld .none).releaseHost .written ∨
    (¬ ∃ q ∈ seqs, s.pwq.held = .recordWait q) ∧ s.releaseWaiter seqs = s := by
  unfold State.releaseWaiter
  cases h : s.pwq.held with
  | none => exact .inr ⟨by simp, rfl⟩
  | slotWait w => exact .inr ⟨by simp, rfl⟩
  | recordWait q =>
    by_cases hq : q ∈ seqs
    · exact .inl ⟨⟨q, hq, rfl⟩, by simp [hq]⟩
    · exact .inr ⟨by rintro ⟨p, hp, he⟩; cases he; exact hq hp, by simp [hq]⟩

/-- The last record of a DRAINING entry leaves: the entry becomes EMPTY and TABLE is latched; else nothing. -/
theorem afterLeave_cases (e : EntryIdx) (s : State) :
    (∃ l, s.live e = some l ∧ l.phase = .draining ∧ (∀ r ∈ s.pwq.records, r.entry ≠ e) ∧
      s.afterLeave e = (s.setLive e none).latchTable) ∨
    ((∀ l ∈ s.live e, l.phase = .draining → ∃ r ∈ s.pwq.records, r.entry = e) ∧ s.afterLeave e = s) := by
  unfold State.afterLeave
  cases h : s.live e with
  | none => exact .inr ⟨by simp, rfl⟩
  | some l =>
    by_cases hc : l.phase = .draining ∧ s.hasRecord e = false
    · refine .inl ⟨l, rfl, hc.1, ?_, by simp [hc]⟩
      have := hc.2
      simpa [State.hasRecord] using this
    · refine .inr ⟨?_, by simp [hc]⟩
      intro m hm hp
      cases hm
      have : s.hasRecord e = true := by
        by_contra hh
        exact hc ⟨hp, by simpa using hh⟩
      simpa [State.hasRecord] using this

end Sys2Proof.Machine
end

