-- ==== Sys2Proof/WellFormed.lean ====
section
/-! DEFINITION. Well-formed commands: those the bus and the bridge's own timers can make. The operand types rule out
every other value, so the checks are those no type says. -/

namespace Sys2Proof

/-- A host aperture or Stream Data access is a bus access with at least one strobe (R15); one with none is taken
too, and changes nothing. -/
def strobed (st : Strobes) : Bool := st.hlb || st.hub

/-- The command is one the table means by its row: an aperture or Stream Data access carries a byte, and a
REGISTER_WRITE is a write of a register or value that has no row of its own (R179). -/
def Instr.wf : Instr → Bool
  | .hostApertureRead _ st => strobed st
  | .hostApertureWrite _ st _ => strobed st
  | .streamDataWrite st _ => strobed st
  | .streamDataRead st => strobed st
  | .registerWrite a => a.row.isNone
  | .moduleReset _ | .powerRequest _ | .eventEnable _ | .stallLimit _ | .negotiatedSettingWrite _ _ => true
  | .hostEvent _ | .streamStatus _ | .endMessage | .nextMessage | .notePop | .faultPop _ | .clearLost => true
  | .openEntry _ | .closeEntry _ | .resumeEntry _ | .retarget _ | .setEditable _ => true
  | .moduleReady _ _ | .remain _ _ | .dormantConfirm _ _ | .wake _ _ | .datapathReset => true
  | .notice _ | .answerAccept _ _ _ | .answerReject _ _ _ | .localEvent _ | .localMask _ => true
  | .invalidateLines | .freshness _ | .grantPatience _ | .yieldHonor _ => true
  | .ringSettingWrite _ _ | .inConsume _ | .outProduce _ | .indexRefusedClear => true
  | .inStart | .inStop | .inRestart | .inPop | .outStart | .outStop | .outRestart | .outMark _ => true
  | .notePost _ | .noteFullClear => true
  | .powerOnReset | .powerOnResetEnd => true
  | .lbgntAsserted | .lbgntWithdrawal | .lyldAsserted | .lyldDeasserted | .lack _ | .lerr => true
  | .latnAssertion | .latnDeassertion => true
  | .stallExpiry | .ackLimitExpiry | .holdExpiry | .grantPatienceExpiry | .lingerExpiry => true
  | .freshnessExpiry _ | .answerExpiry _ | .requestBegin => true

end Sys2Proof
end

