-- ==== Sys2Proof/Tests/Slice0.lean ====
section
/-! SUPPORT. Tests: the checks of WellFormed refuse what they should, every hypothesis of a statement is met by a
concrete state at a boundary of its range (`witness_<statement>`), and single steps of the spec's worked sequences
give what the spec's tables say (`test_<what>`). -/

namespace Sys2Proof.Tests

open Sys2Proof Sys2Proof.Machine

/-! ### Helper states -/

/-- Both strobes. -/
def both : Strobes := { hlb := true, hub := true }

/-- No strobe. -/
def neither : Strobes := { hlb := false, hub := false }

/-- HUB alone. -/
def high : Strobes := { hlb := false, hub := true }

/-- As after reset, in a power state. -/
def inPower (p : PowerState) : State := { State.reset with power := { Power.reset with state := p } }

/-- ACTIVE, else as after reset. -/
def act : State := inPower .active

/-- One page at host page 0x010, local base 0x20000000, READ_WRITE, every mode off. -/
def pageAp : Aperture :=
  { page := 0x010, size := 0, base := 0x20000, access := .readWrite, strict := false, streaming := false,
    combine := false, swapped := false, slide := false, hold := 0 }

/-- A live entry over an aperture. -/
def entryOf (p : EntryPhase) (ap : Aperture) : LiveEntry := { phase := p, ap := ap, slideCount := 0, refused := 0 }

/-- A state with entry 2 live. -/
def withEntry (p : EntryPhase) (ap : Aperture) (s : State) : State := s.setLive 2 (some (entryOf p ap))

/-- ACTIVE with entry 2 OPEN over one page. -/
def opened (ap : Aperture) : State := withEntry .opened ap act

/-- HA[23:1] of a host address. -/
def ha (a : Nat) : BitVec 23 := BitVec.ofNat 23 (a / 2)

/-- A PWQ record of entry 2. -/
def rec2 (seq : Nat) (flight : Bool) : WriteRecord :=
  { seq := BitVec.ofNat 8 seq, entry := 2, hostAddr := 0x010000, word := 0x20000000, mask := 0x3, data := 0x1234,
    strict := false, inFlight := flight }

/-- A held write of entry 2. -/
def write2 : HostWrite :=
  { entry := 2, hostAddr := 0x010000, word := 0x20000000, mask := 0x3, data := 0, strict := false, combine := false }

/-- A state with some PWQ records and a held write. -/
def withQueue (rs : List WriteRecord) (h : HeldWrite) (s : State) : State :=
  { s with pwq := { records := rs, seq := 50, held := h } }

/-- A transfer of a client with some beats, the first of them presented. -/
def transferOf (c : Client) (k : TransferKind) (n : Nat) (discard : Bool) : Transfer :=
  { client := c, kind := k, entry := some 2, first := 0x20000000, beats := List.replicate n { lbe := 0xF, ld := 0 },
    beatsDone := 0, readData := [], discard := discard, beatTimer := { start := 0, limit := 32 }, runLen := 4,
    runSkip := 0 }

/-- A state that owns the bus with a transfer in flight. -/
def carrying (x : Transfer) (o : Ownership) (s : State) : State :=
  { s with master := { s.master with transfer := some x, own := o }, pins := { s.pins with lbgnt := true } }

/-- A state with an ownership state. -/
def owning (o : Ownership) (s : State) : State := { s with master := { s.master with own := o } }

/-- A host read record of entry 2. -/
def read2 (k : ReadKind) (p : ReadPhase) (i : Option LineIdx) : ReadRecord :=
  { hostAddr := 0x010010, entry := 2, word := 0x20000010, lanes := { low := some 0, high := some 1 }, kind := k,
    phase := p, line := i }

/-- A state with a host read record and an orphan. -/
def withSlot (r : Option ReadRecord) (o : Option Orphan) (s : State) : State :=
  { s with slot := { record := r, orphan := o } }

/-- A state with a staging record for entry 2 in both windows. -/
def staged (page size access : Nat) (s : State) : State :=
  let g : Staging := { Staging.clear with
    target := 2, page := BitVec.ofNat 12 page, size := BitVec.ofNat 4 size, access := BitVec.ofNat 2 access }
  { s with table := { s.table with hostStage := g, localStage := g } }

/-- A state where the host may edit entry 2. -/
def hostMay (s : State) : State :=
  { s with
    settings := { s.settings with s6 := { s.settings.s6 with accepted := 1 } }
    table := { s.table with entries := s.table.entries.set 2 { s.table.entries[2] with editable := true } } }

/-- A state with a datapath reset in progress. -/
def resetting (s : State) : State := { s with power := { s.power with resetBusy := true } }

/-- A state with an inbound channel in a state, with bytes in its FIFO and a message length. -/
def inbound (c : InState) (bytes len : Nat) (s : State) : State :=
  { s with inb := { s.inb with state := c, fifo := List.replicate bytes 0, msgLen := len } }

/-- A state with an outbound channel in a state: bytes in its FIFO, bytes produced, and marks. -/
def outbound (c : OutState) (bytes produced : Nat) (marks : List Nat) (s : State) : State :=
  { s with outb := { s.outb with
      state := c, fifo := List.replicate bytes 0, fetch := bytes, produce := produced, marks := marks } }

/-- A state with a full inbound FIFO and a Stream Data write held for room. -/
def holding (s : State) : State :=
  { inbound .running 32 32 s with
    inb := { (inbound .running 32 32 s).inb with held := some [0] }
    hostReply := .held
    stall := some { holder := .inbound, timer := { start := 0, limit := 500 } } }

/-- A state with STREAM_ENABLE accepted. -/
def streamOn (s : State) : State :=
  { s with settings := { s.settings with s5 := { s.settings.s5 with accepted := 1 } } }

/-- A state with one proposal of a setting, value `v`, serial 1. -/
def proposing (n : NegSetting) (v : BitVec 4) (t : Option Timer) (s : State) : State :=
  { s with settings := { s.settings.setNeg n { s.settings.neg n with serial := 1, outcome := .pending } with
      proposals := [{ setting := n, serial := 1, value := v, timer := t }] } }

/-- A fault record. -/
def aFault : FaultRecord := unmappedFault 0x7FF000 .read

/-- The next state of a command. -/
def after (i : Instr) (s : State) : State :=
  match exec i s with
  | .next t => t
  | .fault f => nomatch f
  | .refused _ => s

/-! ### WellFormed refuses what it should (R15, R179) -/

theorem test_wf_refuses_an_aperture_read_without_a_strobe : (Instr.hostApertureRead 0 neither).wf = false := by decide
theorem test_wf_refuses_an_aperture_write_without_a_strobe :
    (Instr.hostApertureWrite 0 neither 0).wf = false := by decide
theorem test_wf_refuses_a_stream_write_without_a_strobe : (Instr.streamDataWrite neither 0).wf = false := by decide
theorem test_wf_refuses_a_stream_read_without_a_strobe : (Instr.streamDataRead neither).wf = false := by decide
theorem test_wf_refuses_a_register_write_that_has_a_row :
    (Instr.registerWrite (.host 0x04#6 both 1)).wf = false := by decide
theorem test_wf_takes_what_the_rows_mean :
    (Instr.hostApertureRead 0 high).wf = true ∧ (Instr.hostApertureWrite 0 both 0).wf = true ∧
    (Instr.streamDataWrite high 0).wf = true ∧ (Instr.streamDataRead both).wf = true ∧
    (Instr.registerWrite (.host 0x20#6 both 1)).wf = true ∧ Instr.lerr.wf = true := by decide

/-! ### The table has no bits, so no word spells a command (log entry 8) -/

theorem test_no_word_spells_a_command : decodeTableWord 32 1 = none ∧ act.withFetchWord 32 1 = act := ⟨rfl, rfl⟩

/-! ### One live entry keeps the law of R6 -/

/-- An entry other than 2 of a state with entry 2 alone live is EMPTY. -/
theorem live_others (p : EntryPhase) (ap : Aperture) (s : State) (h : ∀ e, s.live e = none) (e : EntryIdx)
    (l : LiveEntry) (hl : (withEntry p ap s).live e = some l) : e = 2 ∧ l = entryOf p ap := by
  by_cases he : e = 2
  · subst he
    rw [withEntry, live_setLive_self] at hl
    exact ⟨rfl, (Option.some.inj hl).symm⟩
  · rw [withEntry, live_setLive_ne s _ he, h e] at hl
    cases hl

/-- No entry is live after reset, in any power state. -/
theorem inPower_live (p : PowerState) (e : EntryIdx) : (inPower p).live e = none := by
  show State.reset.live e = none
  revert e
  decide

/-- One legal entry alone obeys the law. -/
theorem one_entry_law (p : EntryPhase) (ap : Aperture) (s : State) (h : ∀ e, s.live e = none)
    (hs : ap.size.toNat ≤ 8) (ha : ap.page.toNat % pageCount ap.size = 0) : (withEntry p ap s).apertureLaw := by
  refine ⟨?_, ?_⟩
  · intro e l hl
    obtain ⟨_, rfl⟩ := live_others p ap s h e l hl
    exact ⟨hs, ha⟩
  · intro e f hne l hl m hm _ _
    exact hne ((live_others p ap s h e l hl).1.trans (live_others p ap s h f m hm).1.symm)

/-- ACTIVE with entry 2 alone obeys the law. -/
theorem opened_law (p : EntryPhase) (ap : Aperture) (hs : ap.size.toNat ≤ 8)
    (ha : ap.page.toNat % pageCount ap.size = 0) : (withEntry p ap act).apertureLaw :=
  one_entry_law p ap act (inPower_live .active) hs ha

/-! ### Witnesses: the step, the resets and the power states -/

theorem witness_EmptyQueueStepIsOneTick :
    (act.pending = [] ∧ ({ act with pins := { act.pins with pon := true } } : State).pins.pon = true) ∧
    (act.pins.pon = false ∧ act.master.own = .released ∧ act.anyEligible = false) ∧
    (let s : State := { withQueue [rec2 0 false] .none act with
      now := 5, master := { act.master with releaseMark := some 5 } }
     s.pins.pon = false ∧ s.master.own = .released ∧ s.anyEligible = true ∧ s.yieldAsked = false ∧
     s.pins.lbgnt = false ∧ s.master.releaseMark = some 5 ∧ s.now = 5) := by decide

theorem witness_settled_after_reset : act.settledLaw :=
  ⟨by decide, by decide, fun n p h => (by cases h), fun t h => (by cases h)⟩

theorem witness_NothingIsTakenDuringPowerOnReset :
    ({ act with pins := { act.pins with pon := true } } : State).pins.pon = true ∧
    Instr.lerr ≠ .powerOnReset ∧ Instr.lerr ≠ .powerOnResetEnd := by decide

theorem witness_ModuleResetWriteByOldValue :
    State.reset.hostCanAct ∧ State.reset.settings.moduleReset = false ∧ State.reset.master.transfer = none ∧
    (after (.moduleReset true) act).hostCanAct ∧ (after (.moduleReset true) act).settings.moduleReset = true ∧
    (carrying (transferOf .pwq .singleWrite 1 false) .transferring act).hostCanAct ∧
    (carrying (transferOf .pwq .singleWrite 1 false) .transferring act).master.transfer =
      some (transferOf .pwq .singleWrite 1 false) :=
  ⟨⟨rfl, rfl⟩, rfl, rfl, ⟨rfl, rfl⟩, rfl, ⟨rfl, rfl⟩, rfl⟩

theorem witness_DatapathResetByStatusAndTransfer :
    (resetting (carrying (transferOf .pwq .singleWrite 1 true) .transferring act)).localCanAct ∧
    (resetting (carrying (transferOf .pwq .singleWrite 1 true) .transferring act)).power.resetBusy = true ∧
    (carrying (transferOf .pwq .singleWrite 1 false) .transferring act).localCanAct ∧
    (carrying (transferOf .pwq .singleWrite 1 false) .transferring act).power.resetBusy = false ∧
    act.localCanAct ∧ act.power.resetBusy = false ∧ act.master.transfer = none ∧ act.hostHeld = false ∧
    (withSlot (some (read2 .single .busWait none)) none act).slot.record.isSome = true ∧
    (withQueue [] (.slotWait write2) act).slot.record = none ∧
    (withQueue [] (.slotWait write2) act).pwq.held ≠ .none :=
  ⟨⟨rfl, rfl⟩, rfl, ⟨rfl, rfl⟩, rfl, ⟨rfl, rfl⟩, rfl, rfl, rfl, rfl, rfl, by decide⟩

theorem witness_PowerRequestByPowerState (p : PowerState) :
    (inPower p).hostCanAct ∧ (inPower p).localCanAct ∧ (inPower p).power.state = p := ⟨⟨rfl, rfl⟩, ⟨rfl, rfl⟩, rfl⟩

theorem witness_ModuleReadyByPowerState :
    (inPower .starting).localCanAct ∧ (inPower .starting).power.state = .starting ∧
    (inPower .waking).power.state = .waking ∧ (inPower .dormant).power.state = .dormant ∧
    ({ inPower .waking with settings := { Settings.reset with powerLow := true } } : State).localCanAct :=
  ⟨⟨rfl, rfl⟩, rfl, rfl, rfl, ⟨rfl, rfl⟩⟩

theorem witness_RemainConfirmAndWakeByPowerState :
    let q := inPower .quiescing
    (q.localCanAct ∧ q.power.state = .quiescing ∧ q.pwq.records = [] ∧ q.slot.record = none ∧ q.slot.orphan = none ∧
      q.inb.fifo = [] ∧ q.master.transfer = none) ∧
    (inbound .halted 1 1 q).inb.fifo ≠ [] ∧ (inbound .halted 1 1 q).power.state = .quiescing ∧
    (inPower .dormant).localCanAct ∧ (inPower .dormant).power.state = .dormant ∧ act.power.state ≠ .quiescing :=
  ⟨⟨⟨rfl, rfl⟩, rfl, rfl, rfl, rfl, rfl, rfl⟩, by decide, rfl, ⟨rfl, rfl⟩, rfl, by decide⟩

/-! ### Witnesses: the Aperture Table. Entry 2 holds page 0x010 where an entry is live -/

theorem witness_OpenAndSetEditableTaken :
    (hostMay (staged 0x100 8 2 act)).canCommand .host ∧ (hostMay (staged 0x100 8 2 act)).mayEdit .host ∧
    (staged 0x100 8 2 act).canCommand .loc ∧ (staged 0x100 8 2 act).mayEdit .loc ∧
    (staged 0x100 8 2 act).live 2 = none ∧ accessOf 2#2 = some .readWrite ∧ accessOf 0#2 = some .readOnly ∧
    0x100 % 2 ^ 8 = 0 ∧ (staged 0x100 8 2 act).power.resetBusy = false ∧
    (∀ e, ∀ l ∈ (staged 0x100 8 2 act).live e, ∀ p, 0x100 ≤ p → p < 0x100 + 2 ^ 8 → ¬ l.ap.holdsPage p) := by
  refine ⟨⟨rfl, rfl⟩, ⟨rfl, by decide⟩, ⟨rfl, rfl⟩, trivial, by decide, rfl, rfl, rfl, rfl, ?_⟩
  intro e l hl
  have : (staged 0x100 8 2 act).live e = none := inPower_live .active e
  rw [this] at hl
  cases hl

theorem witness_TableCommandsTurnedAway :
    (resetting act).canCommand .host ∧ (resetting act).power.resetBusy = true ∧
    act.canCommand .host ∧ ¬ act.mayEdit .host ∧ act.canCommand .loc ∧ act.mayEdit .loc ∧
    (staged 0x011 0 2 (opened pageAp)).live 2 ≠ none ∧
    (8 < (staged 0 9 2 act).table.localStage.size.toNat) ∧ (staged 0 8 3 act).table.localStage.access = 3#2 ∧
    (staged 1 1 2 act).table.localStage.page.toNat % 2 ^ (staged 1 1 2 act).table.localStage.size.toNat ≠ 0 := by
  refine ⟨⟨rfl, rfl⟩, rfl, ⟨rfl, rfl⟩, fun h => absurd h.1 (by decide), ⟨rfl, rfl⟩, trivial, by decide, by decide,
    rfl, by decide⟩

/-- The overlap clause: entry 3 staged over pages 0x010 and 0x011 meets entry 2's page 0x010. -/
theorem witness_overlap :
    let s := { staged 0x010 1 2 (opened pageAp) with
      table := { (staged 0x010 1 2 (opened pageAp)).table with
        localStage := { (staged 0x010 1 2 (opened pageAp)).table.localStage with target := 3 } } }
    s.live 3 = none ∧ (∃ l ∈ s.live 2, 0x010 ≤ 0x010 ∧ 0x010 < 0x010 + 2 ^ 1 ∧ l.ap.holdsPage 0x010) :=
  ⟨by decide, entryOf .opened pageAp, by decide, by decide, by decide, by decide, by decide⟩

theorem witness_CloseByStateAndRecords :
    let s := staged 0 0 0 (withQueue [rec2 1 false] (.slotWait write2) (opened pageAp))
    s.canCommand .loc ∧ s.power.resetBusy = false ∧ s.mayEdit .loc ∧
    s.live 2 = some (entryOf .opened pageAp) ∧ (∃ r ∈ s.pwq.records, r.entry = 2) ∧
    s.pwq.held = .slotWait write2 ∧ write2.entry = 2 ∧
    (staged 0 0 0 act).live 2 = none ∧
    (staged 0 0 0 (withEntry .draining pageAp act)).live 2 = some (entryOf .draining pageAp) ∧
    (staged 0 0 0 (withEntry .suspended pageAp act)).live 2 = some (entryOf .suspended pageAp) ∧
    (staged 0 0 0 (opened pageAp)).pwq.records = [] := by
  exact ⟨⟨rfl, rfl⟩, rfl, trivial, by decide, by decide, rfl, rfl, by decide, by decide, by decide, rfl⟩

theorem witness_ResumeAndRetargetByState :
    (staged 0 0 0 (withEntry .suspended pageAp act)).canCommand .loc ∧
    (staged 0 0 0 (withEntry .suspended pageAp act)).live 2 = some (entryOf .suspended pageAp) ∧
    (staged 0 0 0 (opened pageAp)).live 2 = some (entryOf .opened pageAp) ∧
    (staged 0 0 0 (opened pageAp)).pendingWork 2 = false ∧
    (staged 0 0 0 (withQueue [rec2 1 false] .none (opened pageAp))).pendingWork 2 = true ∧
    (staged 0 0 0 (withQueue [] (.slotWait write2) (opened pageAp))).pendingWork 2 = true ∧
    (withSlot (some (read2 .single .busWait none)) none (opened pageAp)).pendingWork 2 = true ∧
    (withSlot none (some { entry := 2, kind := .single, line := none }) (opened pageAp)).pendingWork 2 = true :=
  ⟨⟨rfl, rfl⟩, by decide, by decide, by decide, by decide, by decide, by decide, by decide⟩

/-! ### Witnesses: accesses. The page before and the page after entry 2's page are UNMAPPED -/

theorem witness_AccessesSettledAtOnce :
    act.hostCanAct ∧ anyStrobe high = true ∧ (inPower .starting).power.state ≠ .active ∧
    (resetting act).power.resetBusy = true ∧
    ({ inPower .dormant with power := { Power.reset with state := .dormant, wakeOnAccess := true } } : State).hostCanAct ∧
    ¬ pageAp.holdsPage ((hostAddress (ha 0x00FFFE) both).toNat / 4096) ∧
    ¬ pageAp.holdsPage ((hostAddress (ha 0x011000) both).toNat / 4096) ∧
    pageAp.holdsPage ((hostAddress (ha 0x010FFE) both).toNat / 4096) ∧
    (opened pageAp).apertureLaw ∧ (opened pageAp).power.state = .active ∧
    (withEntry .draining pageAp act).live 2 = some (entryOf .draining pageAp) ∧
    EntryPhase.draining ≠ .opened ∧
    Aperture.permits { pageAp with access := .readOnly } .write = false ∧
    Aperture.permits { pageAp with access := .writeOnly } .read = false :=
  ⟨⟨rfl, rfl⟩, rfl, by decide, rfl, ⟨rfl, rfl⟩, by unfold Aperture.holdsPage; decide,
    by unfold Aperture.holdsPage; decide, by unfold Aperture.holdsPage; decide,
    opened_law .opened pageAp (by decide) (by decide), rfl, by decide, by decide, rfl, rfl⟩

theorem witness_SlideAtTheFinalWord :
    let ap : Aperture := { pageAp with slide := true }
    (opened ap).live 2 = some (entryOf .opened ap) ∧ ap.slide = true ∧
    (0x20000FFC#32 = ap.localBase + (BitVec.ofNat 32 (4096 * 2 ^ ap.size.toNat) - 4#32)) ∧
    ¬ (0x20000FF8#32 = ap.localBase + (BitVec.ofNat 32 (4096 * 2 ^ ap.size.toNat) - 4#32)) := by decide

/-- The hypotheses on a write through entry 2, with the queue one short of full and with it full. -/
theorem witness_PostedWriteAdmitted :
    let s := withQueue (List.replicate 15 (rec2 1 false)) .none (opened pageAp)
    s.hostCanAct ∧ anyStrobe both = true ∧ s.power.state = .active ∧ s.power.resetBusy = false ∧ s.apertureLaw ∧
    s.live 2 = some (entryOf .opened pageAp) ∧ pageAp.holdsPage ((hostAddress (ha 0x010002) both).toNat / 4096) ∧
    pageAp.permits .write = true ∧ pageAp.permits .read = true ∧ pageAp.strict = false ∧
    s.pwq.records.length < 16 ∧ pageAp.combine = false :=
  ⟨⟨rfl, rfl⟩, rfl, rfl, rfl, opened_law .opened pageAp (by decide) (by decide), by decide,
    by unfold Aperture.holdsPage; decide, rfl, rfl, rfl, by decide, rfl⟩

/-- The combining clause: the tail holds lanes 0 and 1 of the word, the write brings lanes 2 and 3. -/
theorem witness_combines :
    let ap : Aperture := { pageAp with combine := true }
    let s := withQueue [rec2 1 false] .none (opened ap)
    s.pwq.records = [] ++ [rec2 1 false] ∧ ap.combine = true ∧ (rec2 1 false).entry = 2 ∧
    (rec2 1 false).word = wordOf (ap.localByte (hostAddress (ha 0x010002) both)) ∧ (rec2 1 false).strict = false ∧
    (rec2 1 false).inFlight = false ∧ (rec2 1 false).mask &&& writeMask (ha 0x010002) both false = 0#4 := by decide

theorem witness_WriteHeldForItsRecordOrForASlot :
    let s := withQueue (List.replicate 16 (rec2 1 false)) .none (opened pageAp)
    s.hostCanAct ∧ 16 ≤ s.pwq.records.length ∧ pageAp.combine = false ∧ s.apertureLaw ∧
    (withQueue (List.replicate 15 (rec2 1 false)) .none (opened { pageAp with strict := true })).pwq.records.length < 16 ∧
    ({ pageAp with strict := true } : Aperture).permits .write = true ∧ s.settings.stallLimit ≠ 0#12 :=
  ⟨⟨rfl, rfl⟩, by decide, rfl, opened_law .opened pageAp (by decide) (by decide), by decide, rfl, by decide⟩

theorem witness_AdmittedReadHitsOrEntersTheSlot :
    let ap : Aperture := { pageAp with streaming := true }
    let permit (s : State) : State := { s with settings := { s.settings with s7 := { s.settings.s7 with accepted := 1 } } }
    let s := permit (opened ap)
    let v : Line := .valid 2 0x20000000 [1, 2, 3, 4, 5, 6, 7, 8] 0
    s.hostCanAct ∧ s.live 2 = some (entryOf .opened ap) ∧ ap.streaming = true ∧ s.settings.s7.accepted = 1#4 ∧
    ({ s.lineset with line0 := v } : LineSet).line 0 = v ∧ ({ s.lineset with line1 := v } : LineSet).line 1 = v ∧
    lineAddr (wordOf (ap.localByte (hostAddress (ha 0x01001E) both))) = 0x20000000#32 ∧
    lineAddr (wordOf (ap.localByte (hostAddress (ha 0x010020) both))) ≠ 0x20000000#32 ∧
    s.lineset.line 0 = .invalid ∧ s.apertureLaw :=
  ⟨⟨rfl, rfl⟩, by decide, rfl, rfl, rfl, rfl, by decide, by decide, rfl,
    opened_law .opened { pageAp with streaming := true } (by decide) (by decide)⟩

/-! ### Witnesses: the stream channels -/

/-- The hypotheses of a Stream Data write: room for exactly the bytes, one byte too many under either mode, a message
one byte short of 65,535, and a DORMANT module under WAKE_ON_ACCESS. -/
theorem witness_StreamWriteOutcomes :
    let s := inbound .running 30 30 act
    let full := inbound .running 31 31 act
    s.hostCanAct ∧ full.hostCanAct ∧ s.inb.state = .running ∧ s.power.state = .active ∧ s.power.resetBusy = false ∧
    (streamBytes both 0).length ≤ 32 - s.inb.fifo.length ∧ 32 - full.inb.fifo.length < (streamBytes both 0).length ∧
    full.inb.drop = false ∧ ({ full with inb := { full.inb with drop := true } } : State).inb.drop = true ∧
    ((streamBytes both 0).take (65535 - (inbound .running 0 65534 act).inb.msgLen)).length = 1 ∧
    anyStrobe neither = false ∧ act.inb.state ≠ .running ∧ (inPower .dormant).power.state = .dormant :=
  ⟨⟨rfl, rfl⟩, ⟨rfl, rfl⟩, rfl, rfl, rfl, by decide, by decide, rfl, rfl, by decide, rfl, by decide, rfl⟩

/-- The hypotheses of a Stream Data read: no byte, as many bytes as it takes, fewer than it takes, and a held read. -/
theorem witness_StreamReadOutcomes :
    let none := outbound .running 0 0 [] act
    let some := outbound .running 2 2 [] act
    let few := outbound .running 1 2 [] act
    let held : State := { some with outb := { some.outb with held := .some both } }
    none.hostCanAct ∧ some.hostCanAct ∧ few.hostCanAct ∧ none.outb.available = 0 ∧ some.outb.available = 2 ∧
    some.outb.fifo.length = 2 ∧ few.outb.available = 2 ∧ few.outb.fifo.length = 1 ∧ some.outb.state = .running ∧
    anyStrobe both = true ∧ anyStrobe neither = false ∧ act.outb.state ≠ .running ∧ held.outb.held = .some both :=
  ⟨⟨rfl, rfl⟩, ⟨rfl, rfl⟩, ⟨rfl, rfl⟩, by decide, by decide, by decide, by decide, by decide, rfl, rfl, rfl, by decide,
    rfl⟩

/-- The hypotheses of END and NEXT: 7 boundaries and 8, no message, a mark reached and one not reached. -/
theorem witness_EndAndNextByTheirChecks :
    let s := inbound .running 3 3 act
    let b : Boundary := { endPos := 0, length := 1, damaged := false, visible := true }
    let withBounds (n : Nat) : State := { s with inb := { s.inb with boundaries := List.replicate n b } }
    s.hostCanAct ∧ s.power.state = .active ∧ s.power.resetBusy = false ∧ s.inb.state = .running ∧ s.inb.msgLen ≠ 0 ∧
    (withBounds 7).inb.boundaries.length < 8 ∧ 8 ≤ (withBounds 8).inb.boundaries.length ∧
    (inbound .running 0 0 act).inb.msgLen = 0 ∧ (inPower .quiescing).power.state ≠ .active ∧
    (resetting s).power.resetBusy = true ∧
    (outbound .running 4 8 [0, 4] act).outb.marks = [0, 4] ∧
    (outbound .running 4 8 [0, 4] act).outb.consume = 0 ∧ (outbound .running 4 8 [4] act).outb.consume ≠ 4 ∧
    (∃ x ∈ (carrying (transferOf .outbound .streamFetch 1 false) .transferring act).master.transfer,
      x.client = .outbound) ∧
    ¬ (∃ x ∈ act.master.transfer, x.client = .outbound) :=
  ⟨⟨rfl, rfl⟩, rfl, rfl, rfl, by decide, by decide, by decide, rfl, by decide, rfl, rfl, rfl, by decide,
    ⟨_, rfl, rfl⟩, fun ⟨_, h, _⟩ => (by cases h)⟩

theorem witness_InboundCommandsByState :
    let ring (size : BitVec 4) (base : BitVec 24) : State :=
      let s := streamOn act
      { s with inb := { s.inb with size := size, base := base } }
    (streamOn act).localCanAct ∧ (resetting act).localCanAct ∧ (resetting act).power.resetBusy = true ∧
    (streamOn act).inb.state = .off ∧ (streamOn act).settings.s5.accepted = 1#4 ∧ act.settings.s5.accepted ≠ 1#4 ∧
    ((ring 8 0x000100).inb.size.toNat ≤ 8 ∧
      ((ring 8 0x000100).inb.base ++ 0#8).toNat % (256 * 2 ^ (ring 8 0x000100).inb.size.toNat) = 0) ∧
    ¬ ((ring 9 0).inb.size.toNat ≤ 8) ∧
    ((ring 8 0x000080).inb.base ++ 0#8).toNat % (256 * 2 ^ (ring 8 0x000080).inb.size.toNat) ≠ 0 ∧
    (inbound .halted 1 1 act).inb.state = .halted ∧ (inbound .flushing 1 1 act).inb.state = .flushing ∧
    (inbound .running 0 0 act).inb.fifo = [] ∧ (inbound .running 1 1 act).inb.fifo ≠ [] :=
  ⟨⟨rfl, rfl⟩, ⟨rfl, rfl⟩, rfl, rfl, rfl, by decide, by decide, by decide, by decide, rfl, rfl, rfl, by decide⟩

theorem witness_OutboundCommandsByState :
    let s := streamOn act
    let bad : State := { s with outb := { s.outb with size := 9 } }
    s.localCanAct ∧ s.power.resetBusy = false ∧ s.outb.state = .off ∧ s.settings.s5.accepted = 1#4 ∧
    (s.outb.size.toNat ≤ 8 ∧ (s.outb.base ++ 0#8).toNat % (256 * 2 ^ s.outb.size.toNat) = 0) ∧
    ¬ (bad.outb.size.toNat ≤ 8) ∧ act.settings.s5.accepted ≠ 1#4 ∧
    (outbound .halted 0 0 [] act).outb.state = .halted ∧ (outbound .running 0 0 [] act).outb.state = .running ∧
    (∃ x ∈ (carrying (transferOf .outbound .streamFetch 1 false) .transferring s).master.transfer,
      x.client = .outbound) ∧
    (resetting act).power.resetBusy = true :=
  ⟨⟨rfl, rfl⟩, rfl, rfl, rfl, by decide, by decide, by decide, rfl, rfl, ⟨_, rfl, rfl⟩, rfl⟩

/-- The hypotheses of IN_POP and OUT_MARK: a head of either kind, 7 marks and 8, a mark at OUT_PRODUCE, one past it, and
a fetch in flight that reaches past the mark. -/
theorem witness_PopAndMarkByTheirChecks :
    let b (v : Bool) : Boundary := { endPos := 0, length := 1, damaged := false, visible := v }
    let bounded (v : Bool) : State := { act with inb := { act.inb with boundaries := [b v] } }
    let s := outbound .running 4 8 [] act
    let size := ringSize s.outb.size
    let ahead (i : Nat) : Nat := ringDist size s.outb.consume i
    act.localCanAct ∧ act.power.resetBusy = false ∧ (bounded true).inb.boundaries = b true :: [] ∧
    (b true).visible = true ∧ (b false).visible = false ∧ act.inb.boundaries = [] ∧
    (outbound .running 0 8 [1, 2, 3, 4, 5, 6, 7] act).outb.marks.length < 8 ∧
    8 ≤ (outbound .running 0 8 [1, 2, 3, 4, 5, 6, 7, 8] act).outb.marks.length ∧
    (8#17).toNat < 2 * size ∧ ringDist size s.outb.consume (8#17).toNat ≠ 0 ∧ ahead 8 ≤ ahead s.outb.produce ∧
    ¬ (ahead 9 ≤ ahead s.outb.produce) ∧ s.outb.marks = [] ∧ ahead 3 < ahead s.outb.fetch ∧
    ahead s.outb.fetch ≤ ahead 4 ∧
    (∃ x ∈ (carrying (transferOf .outbound .streamFetch 1 false) .transferring s).master.transfer,
      x.client = .outbound ∧ ahead 7 < ahead s.outb.fetch + x.runLen) :=
  ⟨⟨rfl, rfl⟩, rfl, rfl, rfl, rfl, rfl, by decide, by decide, by decide, by decide, by decide, by decide, rfl,
    by decide, by decide, ⟨_, rfl, rfl, by decide⟩⟩

theorem witness_RingSettingWritesByState :
    let held := holding act
    act.localCanAct ∧ act.inb.state = .off ∧ act.outb.state = .off ∧ held.localCanAct ∧ held.inb.state ≠ .off ∧
    held.inb.held.isSome = true ∧ held.power.resetBusy = false ∧ (resetting held).localCanAct ∧
    (resetting held).power.resetBusy = true ∧ (outbound .halted 0 0 [] act).outb.state ≠ .off ∧
    (0x100#32).getLsbD 8 = true ∧ (0xFF#32).getLsbD 8 = false :=
  ⟨⟨rfl, rfl⟩, rfl, rfl, ⟨rfl, rfl⟩, by decide, rfl, rfl, ⟨rfl, rfl⟩, rfl, by decide, by decide, by decide⟩

/-- R124, R172: with a datapath reset in progress neither DROP nor STREAM_ENABLE 0 releases the host held on a write; the
channel flushes, and the end of the transfer carries the reset out and releases the host without a flag. -/
theorem test_reset_keeps_the_host_held :
    let s := resetting (carrying (transferOf .inbound .streamMove 1 true) .transferring
      (proposing .streamEnable 0 none (streamOn (holding act))))
    let t := after (.ringSettingWrite .inConfig 0x100) (after (.answerAccept 5 1 0) s)
    let u := after (.lack 0) t
    (t.inb.state, t.inb.held, t.inb.drop, t.hwait) = (.flushing, some [0], true, true) ∧
    (t.stream.refused, t.stream.dropped) = (false, false) ∧
    (u.inb.state, u.inb.held, u.hwait, u.hostReply, u.power.resetBusy) = (.off, none, false, .written, false) ∧
    u.stream.refused = false ∧ u.faults.queue = [] := by decide

/-- The hypotheses of an index write: IN_CONSUME up to IN_PRODUCE and one past it; OUT_PRODUCE to a full ring and one
past it, back before itself, and a word with bit 17 set. -/
theorem witness_IndexWritesByTheirChecks :
    let s : State := { act with inb := { act.inb with produce := 20 } }
    let o := outbound .running 0 8 [] act
    let size := ringSize 0
    act.localCanAct ∧ act.power.resetBusy = false ∧ (resetting act).power.resetBusy = true ∧
    ringDist size s.inb.consume (20#32).toNat ≤ ringDist size s.inb.consume s.inb.produce ∧
    ¬ (ringDist size s.inb.consume (21#32).toNat ≤ ringDist size s.inb.consume s.inb.produce) ∧
    ringDist size o.outb.consume o.outb.produce ≤ ringDist size o.outb.consume (256#32).toNat ∧
    ringDist size o.outb.consume (256#32).toNat ≤ size ∧ ¬ (ringDist size o.outb.consume (257#32).toNat ≤ size) ∧
    ¬ (ringDist size o.outb.consume o.outb.produce ≤ ringDist size o.outb.consume (7#32).toNat) ∧
    ¬ ((0x20000#32).toNat < 2 ^ 17) ∧ (0x1FFFF#32).toNat < 2 ^ 17 ∧ ¬ ((512#32).toNat < 2 * size) :=
  ⟨⟨rfl, rfl⟩, rfl, rfl, by decide, by decide, by decide, by decide, by decide, by decide, by decide, by decide,
    by decide⟩

/-! ### Witnesses: settings, proposals and answers -/

theorem witness_NegotiatedWriteByRange :
    act.hostCanAct ∧ (2#4).toNat ≤ 2 ∧ 2 < (3#4).toNat ∧ (1#4).toNat ≤ 1 ∧ 1 < (2#4).toNat ∧
    NegSetting.linePermit ≠ .attentionRoute ∧ act.settings.answerLimit ≠ 0#8 :=
  ⟨⟨rfl, rfl⟩, by decide, by decide, by decide, by decide, by decide, by decide⟩

/-- The pending proposal of `proposing`. -/
def aProposal (n : NegSetting) (v : BitVec 4) (t : Option Timer) : Proposal :=
  { setting := n, serial := 1, value := v, timer := t }

/-- A state that proposes one value in range obeys the law of the proposals. -/
theorem proposing_law (n : NegSetting) (v : BitVec 4) (t : Option Timer) (h : inRange n v = true) :
    (proposing n v t act).proposalLaw := by
  have only (p : Proposal) (hp : p ∈ (proposing n v t act).settings.proposals) : p = aProposal n v t := by
    cases n <;> exact List.mem_singleton.mp hp
  refine ⟨?_, ?_, ?_, ?_⟩
  · cases n <;> exact List.pairwise_singleton _ _
  · intro p hp
    obtain rfl := only p hp
    cases n <;> exact ⟨rfl, rfl, h⟩
  · intro m hm
    cases n <;> cases m <;> first | exact ⟨_, List.mem_singleton.mpr rfl, rfl⟩ | cases hm
  · intro m
    cases n <;> cases m <;> rfl

theorem witness_AnswerAcceptTaken :
    let was1 (n : NegSetting) : State :=
      let g := (proposing n 0 none act).settings
      { act with settings := g.setNeg n ({ g.neg n with accepted := 1 } : Negotiated) }
    (proposing .linePermit 1 none act).localCanAct ∧ (proposing .linePermit 1 none act).proposalLaw ∧
    aProposal .linePermit 1 none ∈ (proposing .linePermit 1 none act).settings.proposals ∧
    negOf 7#3 = some .linePermit ∧ negOf 5#3 = some .streamEnable ∧ negOf 4#3 = some .attentionRoute ∧
    ((was1 .streamEnable).settings.neg .streamEnable).accepted ≠ 0#4 ∧
    ((was1 .linePermit).settings.neg .linePermit).accepted ≠ 0#4 ∧
    (was1 .linePermit).settings.proposals = [aProposal .linePermit 0 none] ∧
    (was1 .streamEnable).settings.proposals = [aProposal .streamEnable 0 none] :=
  ⟨⟨rfl, rfl⟩, proposing_law .linePermit 1 none (by decide), List.mem_singleton.mpr rfl, by decide, by decide,
    by decide, by decide, by decide, rfl, rfl⟩

/-- The stops of the two channels in each of their states, with an empty and a filled FIFO, a held access and a fetch in
flight. -/
theorem witness_AnswerAcceptTaken_stops :
    let empty := inbound .running 0 0 act
    let full := holding act
    let fetching := carrying (transferOf .outbound .streamFetch 1 false) .transferring (outbound .halted 0 1 [] act)
    empty.inb.state = .running ∧ empty.inb.fifo = [] ∧ full.inb.state = .running ∧ full.inb.fifo ≠ [] ∧
    full.inb.held.isSome = true ∧ full.power.resetBusy = false ∧ (resetting full).power.resetBusy = true ∧ (inbound .halted 1 1 act).inb.state = .halted ∧
    (inbound .flushing 1 1 act).inb.state = .flushing ∧ act.inb.state = .off ∧
    (outbound .running 32 32 [] act).outb.state ≠ .off ∧ fetching.outb.state ≠ .off ∧
    fetching.master.transfer.any (fun x => decide (x.client = .outbound)) = true ∧ act.outb.state = .off := by decide

theorem witness_AnswerRejectTaken :
    (proposing .attentionRoute 2 none act).localCanAct ∧ (proposing .attentionRoute 2 none act).proposalLaw ∧
    aProposal .attentionRoute 2 none ∈ (proposing .attentionRoute 2 none act).settings.proposals ∧
    negOf 4#3 = some .attentionRoute ∧ (1#4 ≠ 0#4 ∧ 1#4 ≠ 15#4) ∧ (14#4 ≠ 0#4 ∧ 14#4 ≠ 15#4) :=
  ⟨⟨rfl, rfl⟩, proposing_law .attentionRoute 2 none (by decide), List.mem_singleton.mpr rfl, by decide, by decide,
    by decide⟩

theorem witness_AnswerExpiryEndsTheProposal :
    let t : Timer := { start := 0, limit := 50000 }
    (proposing .tableRights 1 (some t) act).pins.pon = false ∧ (proposing .tableRights 1 (some t) act).proposalLaw ∧
    aProposal .tableRights 1 (some t) ∈ (proposing .tableRights 1 (some t) act).settings.proposals ∧
    t ∈ (aProposal .tableRights 1 (some t)).timer ∧ (proposing .tableRights 1 none act).proposalLaw ∧
    (aProposal .tableRights 1 none).timer = none :=
  ⟨rfl, proposing_law .tableRights 1 _ (by decide), List.mem_singleton.mpr rfl, rfl,
    proposing_law .tableRights 1 none (by decide), rfl⟩

theorem witness_AnswersTurnedAway :
    let s := proposing .attentionRoute 1 none act
    s.localCanAct ∧ s.proposalLaw ∧ (3#3).toNat < 4 ∧ 4 ≤ (4#3).toNat ∧
    (∀ p ∈ s.settings.proposals, negOf 4#3 = some p.setting → p.serial ≠ 2#8) ∧ (14#4 ≠ 0#4 ∧ 14#4 ≠ 15#4) :=
  ⟨⟨rfl, rfl⟩, proposing_law .attentionRoute 1 none (by decide), by decide, by decide, by decide, by decide⟩

/-! ### Witnesses: events, notes, faults and the attention line -/

theorem witness_WritingOneClears : act.hostCanAct ∧ act.localCanAct := ⟨⟨rfl, rfl⟩, ⟨rfl, rfl⟩⟩

theorem witness_InterruptLinesShowEnabledMembers :
    act.pins.pon = false ∧ act.settings.moduleReset = false ∧
    (after (.eventEnable 0x1FF) (inbound .running 16 16 act)).hint = true ∧
    (after (.eventEnable 0x1FF) (inbound .running 17 17 act)).hint = false := by decide

/-- Each of the other output lines asserted in a state where the spec asserts it, and deasserted beside it; the last beat
of a transfer is presented at its own word address. -/
theorem witness_InterruptLinesShowEnabledMembers_lines :
    let move := transferOf .inbound .streamMove 2 false
    let last := carrying { move with beatsDone := 1 } .transferring act
    act.hready = true ∧ (inPower .dormant).hready = true ∧ (inPower .quiescing).hready = false ∧
    (inPower .dormant).lpwr = true ∧ act.lpwr = false ∧ (after (.moduleReset true) act).lrst = true ∧ act.lrst = false ∧
    (owning (.requesting 0 .expired) act).lbreq = true ∧ act.lbreq = false ∧
    (owning (.requesting 0 .expired) act).lurg = true ∧ (owning (.requesting 0 .running) act).lurg = false ∧
    (holding act).hwait = true ∧ act.hwait = false ∧ act.master.transfer = none ∧
    last.master.transfer = some { move with beatsDone := 1 } ∧ move.beats[1]? = some { lbe := 0xF, ld := 0 } ∧
    last.beatShown = some (0x20000004, 0xF, 0) := by decide

theorem witness_NotesAndFaultsPoppedAndPosted :
    let notes (n : Nat) : State := { act with events := { act.events with notes := List.replicate n 7 } }
    act.localCanAct ∧ act.hostCanAct ∧ act.canCommand .host ∧ act.canCommand .loc ∧ (notes 3).events.notes.length < 4 ∧
    4 ≤ (notes 4).events.notes.length ∧ (notes 1).events.notes = 7 :: [] ∧ act.events.notes = [] ∧
    act.faults.queue = [] ∧ (State.fault aFault act).faults.queue = aFault :: [] :=
  ⟨⟨rfl, rfl⟩, ⟨rfl, rfl⟩, ⟨rfl, rfl⟩, ⟨rfl, rfl⟩, by decide, by decide, rfl, rfl, rfl, by decide⟩

theorem witness_AttentionLineByRoute :
    let s : State := { inPower .dormant with power := { (inPower .dormant).power with wakeOnAttention := true } }
    s.pins.pon = false ∧ s.pins.latn = false ∧ s.power.state = .dormant ∧ s.power.wakeOnAttention = true ∧
    act.power.state ≠ .dormant ∧ (after .latnAssertion act).pins.latn = true := by decide

/-! ### Witnesses: the local bus -/

/-- The arbiter's cases: run 7 and run 8 with a stream channel waiting, each client alone, both channels. -/
theorem witness_ArbiterChoosesByR78 :
    let run (n : Nat) (s : State) : State := { s with master := { s.master with run := n } }
    let read := withSlot (some (read2 .single .busWait none)) none act
    let write := withQueue [rec2 1 false] .none act
    let move := inbound .running 16 16 act
    let fetch := outbound .running 0 1 [] act
    let streams := outbound .running 0 1 [] move
    read.power.resetBusy = false ∧ read.choose = some .readSlot ∧ write.choose = some .pwq ∧
    move.choose = some .inbound ∧ fetch.choose = some .outbound ∧ streams.choose = some .inbound ∧
    (run 7 (withQueue [rec2 1 false] .none streams)).choose = some .pwq ∧
    (run 8 (withQueue [rec2 1 false] .none streams)).choose = some .inbound ∧
    (run 8 write).choose = some .pwq ∧ act.choose = none ∧ (inbound .running 15 15 act).choose = none ∧
    (run 7 fetch).master.run < 8 ∧ (run 7 fetch).slot.record = none ∧ (run 7 fetch).pwq.records = [] ∧
    (run 7 fetch).choose = some .outbound := by decide

/-- A grant reaches each client, a withdrawn grant and an owner. -/
theorem witness_GrantIssuesTheChosenTransfer :
    let asks (s : State) : State := owning (.requesting 0 .stopped) s
    let write := asks (withQueue [rec2 1 false] .none act)
    let read (k : ReadKind) : State := asks (withSlot (some (read2 k .busWait none)) none act)
    write.pins.pon = false ∧ write.master.own = .requesting 0 .stopped ∧ (asks act).anyEligible = false ∧
    write.choose = some .pwq ∧ write.pwq.records = rec2 1 false :: [] ∧
    (read .single).choose = some .readSlot ∧ (read .single).slot.record = some (read2 .single .busWait none) ∧
    (read .line).slot.record = some (read2 .line .busWait none) ∧ (read .line).lineset.line0 = .invalid ∧
    (asks (inbound .running 16 16 act)).choose = some .inbound ∧
    (asks (outbound .running 0 1 [] act)).choose = some .outbound ∧
    (owning (.yielding .withdrawn) act).master.own = .yielding .withdrawn ∧
    act.master.own ≠ .yielding .withdrawn ∧ act.master.own = .released := by decide

theorem witness_LinesTakenByOwnershipState :
    let h : Timer := { start := 0, limit := 15 }
    act.pins.pon = false ∧ act.localCanAct ∧ act.master.own = .released ∧ act.master.yieldHonor = true ∧
    (owning .transferring act).master.own = .transferring ∧ (owning (.holding h) act).master.own = .holding h ∧
    (owning (.yielding .yielded) act).master.own = .yielding .yielded ∧
    (owning (.yielding .withdrawn) act).master.own = .yielding .withdrawn ∧
    (owning (.requesting 0 .running) act).master.own = .requesting 0 .running ∧
    (after (.yieldHonor false) act).master.yieldHonor = false ∧ (after .lyldAsserted act).pins.lyld = true :=
  ⟨rfl, ⟨rfl, rfl⟩, rfl, rfl, rfl, rfl, rfl, rfl, rfl, by decide, by decide⟩

/-- The bus timers: a request 200 ticks old under 200 and under 201, each timer running, and a request that begins one
tick after the mark. -/
theorem witness_BusTimersAndTheirExpiries :
    let s : State := { owning (.requesting 0 .running) (withQueue [rec2 1 false] .none act) with now := 200 }
    let h : Timer := { start := 0, limit := 15 }
    let lingering : State := { act with inb := { act.inb with linger := .running 0 } }
    let waiting : State := { withQueue [rec2 1 false] .none act with
      now := 7, master := { act.master with releaseMark := some 7 } }
    s.localCanAct ∧ s.pins.pon = false ∧ s.master.own = .requesting 0 .running ∧ Patience.running ≠ .expired ∧
    (200#8).toNat ≤ s.now - 0 ∧ s.now - 0 < (201#8).toNat ∧ (200#8 ≠ 0#8) ∧
    (owning (.requesting 0 .expired) act).master.own = .requesting 0 .expired ∧
    (owning (.holding h) act).master.own = .holding h ∧ lingering.inb.linger = .running 0 ∧
    waiting.master.own = .released ∧ waiting.anyEligible = true ∧ waiting.yieldAsked = false ∧
    waiting.master.releaseMark = some 7 ∧ waiting.now = 7 ∧ waiting.pins.lbgnt = false :=
  ⟨⟨rfl, rfl⟩, rfl, rfl, by decide, by decide, by decide, by decide, rfl, rfl, rfl, rfl, by decide, by decide, rfl, rfl,
    rfl⟩

/-- A line 10 ticks old under FRESHNESS 10 and 11, and a FILLING line. -/
theorem witness_LineCommandsAndFreshness :
    let v : Line := .valid 2 0x20000000 [1, 2, 3, 4, 5, 6, 7, 8] 5
    let s : State := { act with now := 15, lineset := { act.lineset with line1 := v, freshness := 10 } }
    s.localCanAct ∧ s.pins.pon = false ∧ s.lineset.line 1 = v ∧ s.lineset.freshness ≠ 0#8 ∧ (10#8).toNat ≤ s.now - 5 ∧
    ¬ ((11#8).toNat ≤ s.now - 5) ∧ act.lineset.freshness = 0#8 ∧ s.lineset.line 0 = .invalid :=
  ⟨⟨rfl, rfl⟩, rfl, rfl, by decide, by decide, by decide, rfl, rfl⟩

theorem witness_BusSettlesAfterATransfer :
    let s := owning .transferring (withQueue [rec2 1 false] .none act)
    let asked (t : State) : State := { t with pins := { t.pins with lyld := true } }
    s.master.own = .transferring ∧ s.choose = some .pwq ∧ (owning .transferring act).choose = none ∧
    (asked s).pins.lyld = true ∧ (asked s).master.yieldHonor = true ∧ s.pins.lyld = false ∧
    (owning (.yielding .withdrawn) (withQueue [rec2 1 false] .none act)).anyEligible = true ∧
    (owning (.yielding .withdrawn) act).anyEligible = false ∧
    (owning (.yielding .yielded) act).master.own = .yielding .yielded := by decide

/-- The end of any other event: a request that begins one tick after the release mark and not at it, one that stands, is
granted, yields or ends, and a hold that finds a client and one that finds none. -/
theorem witness_BusSettlesAfterATransfer_poll :
    let work := withQueue [rec2 1 false] .none act
    let marked (m : Nat) : State := { work with now := 5, master := { work.master with releaseMark := some m } }
    let asks (s : State) : State := owning (.requesting 0 .stopped) s
    let holds (s : State) : State := owning (.holding { start := 0, limit := 15 }) s
    let line (g y : Bool) (s : State) : State := { s with pins := { s.pins with lbgnt := g, lyld := y } }
    (marked 4).master.own = .released ∧ (marked 4).anyEligible = true ∧ (marked 4).pins.lyld = false ∧ 4 < (marked 4).now ∧
    (marked 4).pins.lbgnt = false ∧ (line true false (marked 4)).pins.lbgnt = true ∧ ¬ (5 < (marked 5).now) ∧
    (asks act).anyEligible = false ∧ (asks work).anyEligible = true ∧ (line true true (asks work)).pins.lyld = true ∧
    (asks work).master.yieldHonor = true ∧ (holds work).master.own = .holding { start := 0, limit := 15 } ∧
    (holds work).choose = some .pwq ∧ (holds act).choose = none ∧
    (owning .transferring work).master.own = .transferring := by decide

/-- R72, first row: a record that enters during a hold is issued in the same event, and the bus is kept. -/
theorem test_hold_issues_the_next_transfer :
    let s := owning (.holding { start := 0, limit := 15 }) (opened pageAp)
    let t := after (.hostApertureWrite (ha 0x010000) both 1) s
    t.master.own = .transferring ∧ t.master.transfer.map (·.client) = some .pwq ∧ t.master.releaseMark = s.master.releaseMark := by
  decide

theorem witness_BeatsAndDiscardedTransfers :
    let two := transferOf .inbound .streamMove 2 false
    let fill := transferOf .readSlot .lineFill 8 true
    act.pins.pon = false ∧ act.master.transfer = none ∧
    (carrying two .transferring act).master.transfer = some two ∧ two.beatsDone + 1 < two.beats.length ∧
    (carrying fill .transferring act).master.transfer = some fill ∧ fill.discard = true ∧ fill.kind = .lineFill ∧
    (carrying fill .transferring act).power.resetBusy = false ∧
    (resetting (carrying fill .transferring act)).power.resetBusy = true ∧
    (transferOf .pwq .singleWrite 1 true).beats.length ≤ (transferOf .pwq .singleWrite 1 true).beatsDone + 1 := by
  decide

/-- A write in flight from an OPEN and from a DRAINING entry, alone and with a record of the entry behind it, with the
host on the record, and on a sibling of it. -/
theorem witness_WriteTransferEnds :
    let x := transferOf .pwq .singleWrite 1 false
    let s (p : EntryPhase) (rest : List WriteRecord) (h : HeldWrite) : State :=
      carrying x .transferring (withQueue (rec2 1 true :: rest) h (withEntry p pageAp act))
    (s .opened [] .none).pins.pon = false ∧ (s .opened [] .none).power.resetBusy = false ∧
    (s .opened [] .none).master.transfer = some x ∧ x.client = .pwq ∧ x.discard = false ∧
    (s .opened [] .none).pwq.records = rec2 1 true :: [] ∧
    (s .opened [] .none).live (rec2 1 true).entry = some (entryOf .opened pageAp) ∧
    (s .draining [] .none).live (rec2 1 true).entry = some (entryOf .draining pageAp) ∧
    (∃ q ∈ [rec2 2 false], q.entry = (rec2 1 true).entry) ∧ x.beats.length ≤ x.beatsDone + 1 ∧
    (s .opened [] (.recordWait 1)).pwq.held = .recordWait (rec2 1 true).seq ∧
    (s .opened [rec2 2 false] (.recordWait 2)).pwq.held = .recordWait 2 ∧
    (entryOf .draining pageAp).phase ≠ .suspended := by
  refine ⟨rfl, rfl, rfl, rfl, rfl, rfl, by decide, by decide, ⟨rec2 2 false, by decide, rfl⟩, by decide, rfl, rfl,
    by decide⟩

/-- A write that waits for a slot of an EMPTY, a DRAINING, a SUSPENDED and an OPEN entry, with 15 records, with 16, and
with a tail it combines into; a read in ORDER_WAIT of the entry, with a line that has come to cover it and without. -/
theorem witness_WriteTransferEnds_waiting_work :
    let waits (p : EntryPhase) (n : Nat) (w : HostWrite) : State :=
      withQueue (List.replicate n (rec2 1 false)) (.slotWait w) (withEntry p pageAp act)
    let lanes23 : HostWrite := { write2 with mask := 0xC, combine := true }
    let r := read2 .line .orderWait none
    let reads := withSlot (some r) none (opened pageAp)
    let v : Line := .valid 2 0x20000000 [1, 2, 3, 4, 5, 6, 7, 8] 0
    let late : State := { reads with
      lineset := { reads.lineset with line1 := v }
      settings := { reads.settings with s7 := { reads.settings.s7 with accepted := 1 } } }
    act.pwq.held = .none ∧ (withQueue [] (.slotWait write2) act).live write2.entry = none ∧
    (waits .draining 1 write2).pwq.held = .slotWait write2 ∧
    (waits .draining 1 write2).live write2.entry = some (entryOf .draining pageAp) ∧
    (waits .suspended 1 write2).live write2.entry = some (entryOf .suspended pageAp) ∧
    (waits .opened 15 write2).live write2.entry = some (entryOf .opened pageAp) ∧
    (waits .opened 15 write2).pwq.records.length = 15 ∧ write2.combine = false ∧
    16 ≤ (waits .opened 16 write2).pwq.records.length ∧
    (waits .opened 1 lanes23).pwq.records = [] ++ [rec2 1 false] ∧ lanes23.strict = false ∧
    (rec2 1 false).entry = lanes23.entry ∧ (rec2 1 false).word = lanes23.word ∧
    (rec2 1 false).mask &&& lanes23.mask = 0#4 ∧
    reads.slot.record = some r ∧ r.phase = .orderWait ∧ r.entry = 2 ∧ reads.pwq.records = [] ∧
    reads.slot.orphan = none ∧ r.kind = .line ∧ reads.settings.s7.accepted ≠ 1#4 ∧
    late.settings.s7.accepted = 1#4 ∧ r.word &&& 0xFFFFFFE0#32 = 0x20000000#32 ∧ late.lineset.line 1 = v ∧
    late.lineset.line 0 = .invalid ∧ late.testOrder.hostReply = .read 5#16 := by decide

theorem witness_ReadTransferEnds :
    let x := transferOf .readSlot .singleRead 1 false
    let r := read2 .single .inFlight none
    let o : Orphan := { entry := 2, kind := .line, line := some 1 }
    let s := carrying x .transferring (withSlot (some r) none (opened pageAp))
    let left := carrying x .transferring (withSlot none (some o) (opened pageAp))
    s.pins.pon = false ∧ s.power.resetBusy = false ∧ s.master.transfer = some x ∧ x.client = .readSlot ∧
    x.discard = false ∧ x.kind = .singleRead ∧ s.slot.record = some r ∧ r.phase = .inFlight ∧
    x.beats.length ≤ x.beatsDone + 1 ∧ left.slot.orphan = some o ∧ left.slot.record = none ∧
    left.master.transfer = some x := by decide

theorem witness_StreamTransferEnds :
    let m := transferOf .inbound .streamMove 1 false
    let f := transferOf .outbound .streamFetch 1 false
    let s := carrying m .transferring (inbound .flushing 4 4 act)
    let u := carrying f .transferring (outbound .running 0 4 [] act)
    s.pins.pon = false ∧ s.power.resetBusy = false ∧ s.master.transfer = some m ∧ m.discard = false ∧
    m.client = .inbound ∧ m.beats.length ≤ m.beatsDone + 1 ∧ s.inb.fifo.drop m.runLen = [] ∧
    (inbound .flushing 5 5 act).inb.fifo.drop m.runLen ≠ [] ∧
    u.master.transfer = some f ∧ f.client = .outbound ∧ f.kind = .streamFetch ∧ u.outb.fetchVoid = false ∧
    ({ u with outb := { u.outb with fetchVoid := true } } : State).outb.fetchVoid = true := by decide

/-- A held write whose two bytes just fit the FIFO, and one with a byte too many. -/
theorem witness_StreamTransferEnds_held_write :
    let held (n : Nat) : State :=
      { inbound .running n n act with inb := { (inbound .running n n act).inb with held := some [1, 2] } }
    (held 30).inb.held = some [1, 2] ∧ [(1 : Byte), 2].length ≤ 32 - (held 30).inb.fifo.length ∧
    32 - (held 31).inb.fifo.length < [(1 : Byte), 2].length ∧ act.inb.held = none := by decide

/-- Each holder with its timer running: a write for a slot, a write for its record in flight and not, a read, and the
two channels. -/
theorem witness_StallExpiryByHolder :
    let t : Timer := { start := 3, limit := 500 }
    let timing (h : Holder) (s : State) : State := { s with stall := some { holder := h, timer := t } }
    let waits (flight : Bool) : State := timing .pwq (withQueue ([] ++ rec2 1 flight :: []) (.recordWait 1) act)
    act.pins.pon = false ∧ act.stall = none ∧
    (timing .pwq (withQueue [] (.slotWait write2) act)).pwq.held = .slotWait write2 ∧
    (waits true).stall = some { holder := .pwq, timer := t } ∧ (waits true).pwq.held = .recordWait 1 ∧
    (waits true).pwq.records = [] ++ rec2 1 true :: [] ∧ (rec2 1 true).seq = 1 ∧ (rec2 1 true).inFlight = true ∧
    (rec2 1 false).inFlight = false ∧ (∀ n ∈ ([] : List WriteRecord), n.seq ≠ 1) ∧
    (timing .readSlot (withSlot (some (read2 .line .inFlight (some 0))) none act)).slot.record =
      some (read2 .line .inFlight (some 0)) ∧
    (timing .inbound { act with inb := { act.inb with held := some [1] } }).inb.held.isSome = true ∧
    (timing .outbound { act with outb := { act.outb with held := some both } }).outb.held.isSome = true :=
  ⟨rfl, rfl, rfl, rfl, rfl, rfl, rfl, rfl, rfl, (by intro n h; cases h), rfl, rfl, rfl⟩

/-! ### Witnesses: the register windows -/

theorem witness_RegisterWriteSpellsItsRow :
    (RegWrite.host 0x04#6 both 1).row = some (.moduleReset true) ∧
    (RegWrite.host 0x0B#6 both 1).row = some (.negotiatedSettingWrite .linePermit 1) ∧
    (RegWrite.loc 0x1C#6 0xF#4 1).row ≠ none ∧ (RegWrite.host 0x20#6 both 1).row = none := by decide

/-- NONE under operand bits, the least unnamed value of each command register and the largest, a zero in bit 8, and
registers that hold nothing to write: the identification registers and the last offset of each window. -/
theorem witness_RegisterWriteSpellsItsRow_without_a_row :
    act.hostCanAct ∧ act.localCanAct ∧ (0xFFF0#16).toNat % 16 = 0 ∧ (0xFFFFFFF0#32).toNat % 16 = 0 ∧
    2 ≤ (2#16).toNat % 16 ∧ 3 ≤ (3#16).toNat % 16 ∧ 6 ≤ (6#16).toNat % 16 ∧ (0xFFFF#16).toNat % 16 = 15 ∧
    2 ≤ (2#32).toNat % 16 ∧ 5 ≤ (5#32).toNat % 16 ∧ 9 ≤ (9#32).toNat % 16 ∧ (0xFFFFFEFF#32).getLsbD 8 = false ∧
    (0x00#6 ∉ [0x12#6, 0x1D#6, 0x24#6, 0x36#6]) ∧ (0x3F#6 ∉ [0x03#6, 0x08#6, 0x0D#6, 0x14#6, 0x19#6, 0x27#6]) ∧
    (resetting act).localCanAct ∧ (resetting act).power.resetBusy = true :=
  ⟨⟨rfl, rfl⟩, ⟨rfl, rfl⟩, by decide, by decide, by decide, by decide, by decide, by decide, by decide, by decide,
    by decide, by decide, by decide, by decide, ⟨rfl, rfl⟩, rfl⟩

theorem witness_StoredRegistersReadBack :
    act.hostCanAct ∧ act.localCanAct ∧ (0x100#32).setWidth 8 = 0#8 ∧ (0x1#32).setWidth 8 ≠ 0#8 ∧
    bothStrobes high = false ∧ (0x34#6 ≠ 0x30#6) ∧ (0x7#4 ≠ 0xF#4) :=
  ⟨⟨rfl, rfl⟩, ⟨rfl, rfl⟩, by decide, by decide, rfl, by decide, by decide⟩

/-- The heads, the Views and the lengths of the reads: each absent, each present, and each count at its bound. -/
theorem witness_StoredRegistersReadBack_reads :
    let s := inbound .running 32 32 (outbound .running 63 63 [0x1FFFF] (withEntry .draining pageAp act))
    let b : Boundary := { endPos := 0x1FFFF, length := 0xFFFF, damaged := true, visible := true }
    let t : State := { s with
      faults := { s.faults with queue := List.replicate 7 aFault }
      events := { s.events with notes := List.replicate 7 1 }
      table := { s.table with hostView := 2, localView := 2 }
      settings := { s.settings with proposals := List.replicate 7 (aProposal .linePermit 1 none) }
      inb := { s.inb with boundaries := List.replicate 15 b, produce := 0x1FFFF }
      outb := { s.outb with marks := List.replicate 15 0x1FFFF } }
    act.pins.pon = false ∧ act.localCanAct ∧ act.faults.queue = [] ∧ act.events.notes = [] ∧
    act.settings.proposals = [] ∧ act.inb.boundaries = [] ∧ act.outb.marks = [] ∧
    act.table.entries[act.table.hostView].live = none ∧ act.table.entries[act.table.localView].live = none ∧
    t.pins.pon = false ∧ t.localCanAct ∧ t.faults.queue = aFault :: List.replicate 6 aFault ∧ t.faults.queue.length = 7 ∧
    t.events.notes = 1#16 :: List.replicate 6 1#16 ∧ t.events.notes.length = 7 ∧
    t.table.entries[t.table.hostView].live = some (entryOf .draining pageAp) ∧
    t.table.entries[t.table.localView].live = some (entryOf .draining pageAp) ∧
    t.settings.proposals.head? = some (aProposal .linePermit 1 none) ∧ t.settings.proposals.length = 7 ∧
    negOf 7#3 = some NegSetting.linePermit ∧ t.outb.fifo.length = 63 ∧ t.inb.produce < 2 ^ 17 ∧
    t.inb.boundaries.head? = some b ∧ b.endPos < 2 ^ 17 ∧ b.length < 2 ^ 16 ∧ t.inb.boundaries.length = 15 ∧
    t.outb.marks.head? = some 0x1FFFF ∧ t.outb.marks.length = 15 :=
  ⟨rfl, ⟨rfl, rfl⟩, rfl, rfl, rfl, rfl, rfl, rfl, rfl, rfl, ⟨rfl, rfl⟩, rfl, rfl, rfl, rfl, rfl, rfl, rfl, rfl, rfl, rfl,
    by decide, rfl, by decide, by decide, rfl, rfl, rfl⟩

/-- Tables 10-3 and 10-4: the head of an UNMAPPED host read at 0x7FF000, whole and by byte, and the View of an OPEN entry
(page 0x010, READ_WRITE, local base 0x20000000). -/
theorem test_fault_head_and_view :
    let s := State.fault aFault act
    let v : State := { opened pageAp with table := { (opened pageAp).table with hostView := 2, localView := 2 } }
    hostRegisterRead s 0x13#6 both = 0x0011#16 ∧ hostRegisterRead s 0x14#6 both = 0x0005#16 ∧
    hostRegisterRead s 0x16#6 both = 0x0001#16 ∧ hostRegisterRead s 0x17#6 both = 0xF000#16 ∧
    hostRegisterRead s 0x17#6 high = 0xF000#16 ∧ hostRegisterRead s 0x17#6 neither = 0xFFFF#16 ∧
    hostRegisterRead s 0x18#6 both = 0x007F#16 ∧ localRegisterRead s 0x0F#6 = 0x00000105#32 ∧
    hostRegisterRead v 0x29#6 both = 0x1002#16 ∧ localRegisterRead v 0x16#6 = 0x10020010#32 ∧
    localRegisterRead v 0x17#6 = 0x20000000#32 ∧ hostRegisterRead act 0x29#6 both = 0#16 := by decide

theorem witness_IdentificationRegisters :
    act.pins.pon = false ∧ act.settings.moduleReset = false ∧ act.hostHeld = false ∧
    (after (.moduleReset true) act).settings.moduleReset = true := by decide

/-! ### Witnesses: the laws of the device -/

/-- A busy machine: entry 2 OPEN, a write of it in flight with the host held on the strict record behind it, bytes in
both FIFOs, two marks, a proposal, a line, and a LACK at the front of the queue. -/
def busy : State :=
  let s := withEntry .opened pageAp (proposing .linePermit 1 none
    (carrying (transferOf .pwq .singleWrite 1 false) .transferring act))
  { s with
    pwq := { records := [rec2 1 true, { rec2 2 false with strict := true }], seq := 3, held := .recordWait 2 }
    hostReply := .held
    stall := some { holder := .pwq, timer := { start := 0, limit := 500 } }
    lineset := { s.lineset with line0 := .valid 2 0x20000100 [1, 2, 3, 4, 5, 6, 7, 8] 0 }
    inb := (inbound .running 4 4 act).inb
    outb := (outbound .running 4 8 [4, 8] act).outb
    pending := [.lack 0] }

theorem witness_busy_steps : ∃ t, step busy = .next t ∧ t.pwq.records.length = 1 := ⟨_, rfl, by decide⟩

theorem witness_StepKeepsBounds : busy.capacityLaw ∧ busy.registerLaw ∧ busy.dormantLaw :=
  ⟨by unfold State.capacityLaw; decide, by unfold State.registerLaw; decide, fun h => (by cases h)⟩

theorem busy_apertureLaw : busy.apertureLaw :=
  one_entry_law .opened pageAp (proposing .linePermit 1 none
    (carrying (transferOf .pwq .singleWrite 1 false) .transferring act)) (inPower_live .active) (by decide) (by decide)

theorem busy_live : busy.live 2 = some (entryOf .opened pageAp) := by decide

theorem witness_StepKeepsTableAndQueue : busy.apertureLaw ∧ busy.queueLaw := by
  refine ⟨busy_apertureLaw, ?_, ?_⟩
  · intro r hr
    have h2 : r.entry = 2 := by
      rcases List.mem_cons.mp hr with rfl | hr
      · rfl
      · rw [List.mem_singleton.mp hr]
        rfl
    exact ⟨entryOf .opened pageAp, by rw [h2]; exact busy_live, .inl rfl⟩
  · intro e l h hd
    obtain ⟨_, rfl⟩ := live_others .opened pageAp (proposing .linePermit 1 none
      (carrying (transferOf .pwq .singleWrite 1 false) .transferring act)) (inPower_live .active) e l h
    cases hd

theorem witness_StepKeepsReadOrderAndLines : busy.orderLaw ∧ busy.lineLaw :=
  ⟨fun r h => (by cases h), by
    intro i a ha r hr
    have hw : r.word = 0x20000000#32 := by
      rcases List.mem_cons.mp hr with rfl | hr
      · rfl
      · rw [List.mem_singleton.mp hr]
        rfl
    have ha : a = 0x20000100#32 := by
      by_cases hi : i = 0
      · rw [hi] at ha
        exact (Option.some.inj ha).symm
      · rw [show busy.lineset.line i = .invalid by simp only [LineSet.line, hi, if_false]; rfl] at ha
        cases ha
    rw [hw, ha]
    decide⟩

theorem witness_StepKeepsBusAndTransfers : busy.busLaw ∧ busy.transferLaw :=
  ⟨⟨by decide, ⟨fun _ => .inl rfl, fun _ => rfl⟩, by decide, fun t h => (by cases h), by decide⟩,
    ⟨by decide, by decide, by decide, by decide, by decide, by decide, by decide, by decide⟩⟩

theorem witness_StepKeepsBusSettled : busy.busLaw ∧ busy.settledLaw :=
  ⟨witness_StepKeepsBusAndTransfers.1, by decide, by decide, fun n p h => (by cases h), fun t h => (by cases h)⟩

theorem witness_StepKeepsTheHostInWait : busy.hostLaw := by
  refine ⟨by decide, by decide, by decide, by decide, by decide, by decide, by decide, ?_⟩
  intro t h
  obtain rfl := Option.some.inj h
  exact fun hn => (by cases hn)

theorem witness_StepKeepsTheInboundRing : busy.inboundLaw := by
  refine ⟨by decide, by decide, by decide, ?_⟩
  intro x h hc
  obtain rfl := Option.some.inj h
  cases hc

theorem witness_StepKeepsTheOutboundRing : busy.outboundLaw := by
  refine ⟨by decide, by decide, by decide, by decide, by decide, by decide, by decide, by decide, by decide, ?_⟩
  intro x h hc
  obtain rfl := Option.some.inj h
  cases hc

theorem witness_StepKeepsProposals : busy.proposalLaw := proposing_law .linePermit 1 none (by decide)

/-! ### Single steps of the spec's worked sequences -/

/-- Section 2.8, steps 1 and 2: two halfwords of one word under COMBINE make one record, sequence 42. -/
theorem test_write_combines_to_0x56781234 :
    let ap : Aperture := { pageAp with page := 0, size := 4, base := 0x10000, combine := true }
    let s : State := { opened ap with pwq := { (opened ap).pwq with seq := 42 } }
    let t := after (.hostApertureWrite (ha 0x000102) both 0x5678) (after (.hostApertureWrite (ha 0x000100) both 0x1234) s)
    t.pwq.records.map (fun r => (r.seq, r.word, r.mask, r.data)) = [(42, 0x10000100, 0xF, 0x56781234)] ∧
    t.pwq.seq = 43 ∧ t.hostReply = .written := by decide

/-- Section 2.8, step 4: a byte with HUB alone goes to lane 1. -/
theorem test_high_byte_goes_to_lane_1 :
    let ap : Aperture := { pageAp with page := 0, size := 4, base := 0x10000 }
    (after (.hostApertureWrite (ha 0x000101) high 0x9A00) (opened ap)).pwq.records.map
      (fun r => (r.hostAddr, r.mask, r.data)) = [(0x000101, 0x2, 0x00009A00)] := by decide

/-- R21, SWAPPED: a byte written with HLB at host address 0x010002 goes to lane e+1 = 3 of its word, and HUB alone would
meet lane 2. -/
theorem test_swapped_low_byte_goes_to_lane_3 :
    (after (.hostApertureWrite (ha 0x010002) { hlb := true, hub := false } 0x0056)
      (opened { pageAp with swapped := true })).pwq.records.map (fun r => (r.hostAddr, r.word, r.mask, r.data)) =
      [(0x010002, 0x20000000, 0x8, 0x56000000)] ∧
    laneTable (ha 0x010002) true = (3, 2) ∧ laneTable (ha 0x010002) false = (2, 3) ∧
    laneTable (ha 0x010000) false = (0, 1) := by decide

/-- Section 2.9, step 2: the record in flight leaves and the write held for a slot becomes a record. -/
theorem test_lack_lets_the_waiting_write_in :
    let s := carrying (transferOf .pwq .singleWrite 1 false) .transferring
      (withQueue (rec2 34 true :: List.replicate 15 (rec2 35 false)) (.slotWait write2) (opened pageAp))
    let t := after (.lack 0) s
    t.pwq.records.length = 16 ∧ t.pwq.held = .none ∧ t.pwq.seq = 51 ∧ t.hostReply = .written := by decide

/-- Section 2.9, steps 3 and 6: CLOSE of an entry with a record makes it DRAINING, and its last record's LACK empties
it. -/
theorem test_close_then_drain :
    let s := carrying (transferOf .pwq .singleWrite 1 false) .transferring
      (staged 0 0 0 (withQueue [rec2 1 true] .none (opened pageAp)))
    let t := after (.closeEntry .loc) s
    (t.live 2).map (·.phase) = some .draining ∧ (after (.lack 0) t).live 2 = none ∧
    (after (.lack 0) t).events.loc.table = true := by decide

/-- Section 3.7, steps 1 and 4: a STREAMING read with no line waits for the bus; with the line VALID it is a hit. -/
theorem test_streaming_read_misses_then_hits :
    let ap : Aperture := { pageAp with page := 0x040, size := 1, base := 0x08000, streaming := true }
    let permit (t : State) : State := after (.answerAccept 7 1 0) (after (.negotiatedSettingWrite .linePermit 1) t)
    let s := permit (opened ap)
    let v : State := { s with
      lineset := { s.lineset with line0 := .valid 2 0x08000000 [0, 0, 0, 0, 0x44332211, 0, 0, 0] 3 } }
    let t := after (.hostApertureRead (ha 0x040010) both) s
    t.slot.record.map (fun r => (r.word, r.kind, r.phase)) = some (0x08000010, .line, .busWait) ∧
    t.lbreq = true ∧ t.hwait = true ∧
    (after (.hostApertureRead (ha 0x040012) both) v).hostReply = .read 0x4433#16 := by decide

/-- Section 3.7, step 6: a write's admission empties the line that covers its word. -/
theorem test_write_strikes_the_line :
    let v : Line := .valid 2 0x20000000 [0, 0, 0, 0, 0, 0, 0, 0] 3
    let s : State := { opened pageAp with lineset := { LineSet.reset with line0 := v, line1 := v } }
    let t := after (.hostApertureWrite (ha 0x010014) both 7) s
    t.lineset.line0 = .invalid ∧ t.lineset.line1 = .invalid ∧
    (after (.hostApertureWrite (ha 0x010020) both 7) s).lineset.line0 = v := by decide

/-- Section 3.8, step 2: the expiry answers filler and leaves the read in flight as the orphan. -/
theorem test_stalled_fill_becomes_the_orphan :
    let s : State := { carrying (transferOf .readSlot .lineFill 8 false) .transferring
      (withSlot (some (read2 .line .inFlight (some 1))) none (opened pageAp)) with
      stall := some { holder := .readSlot, timer := { start := 0, limit := 500 } } }
    let t := after .stallExpiry s
    t.hostReply = .read 0xFFFF ∧ t.slot = { record := none, orphan := some { entry := 2, kind := .line, line := some 1 } } ∧
    t.faults.queue.map (fun f => (f.kind, f.origin, f.inFlight)) = [(.stall, .lineFill, some true)] ∧ t.now = 500 := by
  decide

/-- Section 4.6, choice 9: with the run count at 8 the stream goes before record 68. -/
theorem test_lack_gives_the_ninth_choice_to_the_stream :
    let s := carrying (transferOf .pwq .singleWrite 1 false) .transferring
      (withQueue [rec2 67 true, rec2 68 false] .none (inbound .running 17 17 (opened pageAp)))
    let t := after (.lack 0) { s with master := { s.master with run := 8 } }
    t.master.transfer.map (fun x => (x.client, x.runLen)) = some (.inbound, 16) ∧ t.master.run = 0 ∧
    t.master.lastStream = .inbound := by decide

/-- Section 4.7: LYLD in the middle of a transfer yields at its end, without a hold, in RELEASED. -/
theorem test_yield_at_the_end :
    let s := carrying (transferOf .pwq .singleWrite 1 false) .transferring
      (withQueue [rec2 1 true] .none (opened { pageAp with hold := 5 }))
    let t := after .lyldAsserted s
    t.master.own = .yielding .yielded ∧ (after (.lack 0) t).master.own = .released ∧
    (after (.lack 0) s).master.own = .holding { start := 0, limit := 5 } := by decide

/-- Section 5.7, step 1: LERR drops the entry's two other records, keeps the rest in order and suspends the entry. -/
theorem test_lerr_drops_two :
    let other (n : Nat) : WriteRecord := { rec2 n false with entry := 4 }
    let s := carrying (transferOf .pwq .singleWrite 1 false) .transferring (withQueue
      [rec2 30 true, other 31, rec2 32 false, rec2 33 false, other 34] .none (opened pageAp))
    let t := after .lerr s
    t.pwq.records.map (·.seq) = [31, 34] ∧ (t.live 2).map (·.phase) = some .suspended ∧ t.events.loc.table = true ∧
    t.faults.queue.map (fun f => (f.kind, f.seq, f.dropped)) = [(.localError, some 30, some 2)] := by decide

/-- Section 5.7, steps 3 and 7: a SUSPENDED entry counts the access it refuses, and RESUME opens it with count 0. -/
theorem test_suspended_refuses_then_resumes :
    let s := withEntry .suspended pageAp act
    let t := after (.hostApertureWrite (ha 0x010020) both 1) s
    (t.live 2).map (fun l => (l.phase, l.refused)) = some (.suspended, 1) ∧ t.faults.queue = [] ∧
    ((after (.resumeEntry .loc) (staged 0 0 0 t)).live 2).map (fun l => (l.phase, l.refused)) = some (.opened, 0) := by
  decide

/-- Section 6.7: END at IN_PRODUCE 240 with 20 bytes ends the message at 260, not yet VISIBLE. -/
theorem test_end_at_260 :
    let s := inbound .running 20 20 act
    let t := after .endMessage { s with inb := { s.inb with produce := 240, consume := 240 } }
    t.inb.boundaries = [{ endPos := 260, length := 20, damaged := false, visible := false }] ∧ t.inb.msgLen = 0 ∧
    t.stream.hostResult = .ok := by decide

/-- Section 6.7, steps 4 and 5: the move's run is 16 bytes to the ring's end, and its last LACK brings IN_PRODUCE to
256. -/
theorem test_move_to_the_rings_end :
    let s := owning (.requesting 0 .stopped) (inbound .running 20 20 act)
    let t := after .lbgntAsserted { s with inb := { s.inb with produce := 240, consume := 240, base := 0x004000 } }
    let u := after (.lack 0) (after (.lack 0) (after (.lack 0) (after (.lack 0) t)))
    t.master.transfer.map (fun x => (x.first, x.beats.length, x.runLen)) = some (0x004000F0, 4, 16) ∧
    u.inb.produce = 256 ∧ u.inb.fifo.length = 4 := by decide

/-- Section 6.8, step 4: NEXT before the mark discards the 20 bytes and takes OUT_FETCH and OUT_CONSUME to 30. -/
theorem test_next_skips_to_30 :
    let s := outbound .running 20 40 [30, 40] act
    let t := after .nextMessage { s with outb := { s.outb with consume := 10, fetch := 30 } }
    t.outb.marks = [40] ∧ t.outb.fifo = [] ∧ t.outb.fetch = 30 ∧ t.outb.consume = 30 ∧
    t.events.loc.markTaken = true ∧ t.stream.hostResult = .ok := by decide

/-- Section 6.8, step 3 and the text after its table: a halfword read takes two bytes in order; with no byte available it
is answered with filler and EMPTY_READ. -/
theorem test_stream_read_takes_two :
    let s := outbound .running 0 40 [] act
    let t := after (.streamDataRead both) { s with outb := { s.outb with fifo := [0x11, 0x22, 0x33], fetch := 3 } }
    t.hostReply = .read 0x2211#16 ∧ t.outb.consume = 2 ∧ t.outb.fifo = [0x33] ∧
    (after (.streamDataRead both) (outbound .running 0 0 [] act)).stream.emptyRead = true := by decide

/-- Section 7.8, steps 1 and 3: S7 = 1 makes proposal {S7, 1, 1}; S4 = 3 is REJECTED with reason 15. -/
theorem test_proposal_and_rejection_15 :
    let t := after (.negotiatedSettingWrite .linePermit 1) act
    let u := after (.negotiatedSettingWrite .attentionRoute 3) t
    t.settings.proposals.map (fun p => (p.setting, p.serial, p.value)) = [(.linePermit, 1, 1)] ∧
    (t.settings.s7.outcome, t.events.host.answer) = (.pending, false) ∧
    (u.settings.s4.outcome, u.settings.s4.reason, u.settings.s4.serial) = (.rejected, 15, 0) ∧
    u.events.host.answer = true := by decide

/-- Section 7.8, step 7: an answer with an old serial is STALE. -/
theorem test_old_serial_is_stale :
    let s := after (.negotiatedSettingWrite .streamEnable 0) (after (.negotiatedSettingWrite .streamEnable 1) act)
    (after (.answerAccept 5 1 0) s).settings.answerResult = .stale ∧
    (after (.answerAccept 5 1 0) s).settings.s5.accepted = 0 ∧ s.settings.s5.serial = 2 := by decide

/-- Section 7.8, steps 8 and 9: a rejection with reason 3, and the expiry 50 ms after the proposal. -/
theorem test_rejection_and_expiry :
    let s := after (.negotiatedSettingWrite .attentionRoute 1) act
    let t := after (.answerReject 4 1 3) s
    let u := after (.answerExpiry .attentionRoute) s
    (t.settings.s4.outcome, t.settings.s4.reason, t.settings.answerResult) = (.rejected, 3, .ok) ∧
    (u.settings.s4.outcome, u.settings.s4.reason, u.now) = (.expired, 0, 50000) ∧ u.settings.proposals = [] := by decide

/-- Section 8.6, steps 3, 4 and 8: the fifth note is refused with NOTE_FULL, a pop removes the head, and the flag is
cleared. -/
theorem test_fifth_note_is_refused :
    let s : State := { act with events := { act.events with notes := [0x0101, 0x0102, 0x0103, 0x0104] } }
    let t := after (.notePost 0x0105) s
    t.events.noteFull = true ∧ t.events.notes.length = 4 ∧
    (after .notePop t).events.notes = [0x0102, 0x0103, 0x0104] ∧ (after .noteFullClear t).events.noteFull = false := by
  decide

/-- Section 8.7, steps 1, 2 and 4: under MIRROR HINT follows LATN; under FORWARD the level does not hold it. -/
theorem test_attention_mirrored_then_forwarded :
    let mirror : State := after (.eventEnable 0x102) { act with
      settings := { act.settings with s4 := { act.settings.s4 with accepted := 2 } } }
    let s := after .latnAssertion mirror
    let t := after (.answerAccept 4 1 0) (after (.negotiatedSettingWrite .attentionRoute 1) s)
    s.hint = true ∧ s.events.loc.attention = true ∧ (after .latnDeassertion s).hint = false ∧ t.hint = false ∧
    t.pins.latn = true ∧ (after .latnAssertion (after .latnDeassertion t)).events.host.attention = true := by decide

/-- Section 9.7, steps 1, 3 and 7: quiesce, a confirm that is not drained, and a wake by a Stream Data read. -/
theorem test_quiesce_confirm_and_wake :
    let t := after (.powerRequest true) act
    let u : State := after (.dormantConfirm true false) (inbound .running 6 6 t)
    let w := after (.streamDataRead both) (after (.dormantConfirm true false) t)
    t.power.state = .quiescing ∧ t.hready = false ∧ t.events.loc.quiesce = true ∧ u.power.result = .notDrained ∧
    (after (.dormantConfirm true false) t).lpwr = true ∧ w.power.state = .waking ∧ w.power.cause = some .hostAccess ∧
    w.settings.powerLow = false ∧ w.stream.refused = true := by decide

/-- R22, R23: the access of the final word slides the entry by its size, here one page. -/
theorem test_slide_by_one_page :
    let s := opened { pageAp with slide := true }
    let t := after (.hostApertureWrite (ha 0x010FFE) both 1) s
    (t.live 2).map (fun l => (l.ap.base, l.slideCount)) = some (0x20001, 1) ∧
    ((after (.hostApertureWrite (ha 0x010FFA) both 1) s).live 2).map (·.slideCount) = some 0 := by decide

/-- Section 10.3 and R177: the part code of each window, and a register with a row of its own written as a register. -/
theorem test_registers :
    hostRegisterRead act 0x00#6 both = 0x0A28#16 ∧ localRegisterRead act 0x00#6 = 0x00010A28#32 ∧
    (after (.registerWrite (.host 0x0B#6 both 1)) act).settings.s7.outcome = .pending ∧
    hostRegisterRead (after (.registerWrite (.host 0x23#6 both 0xFFFF)) act) 0x23#6 both = 0x7F7F#16 := by decide

/-- R178 and R180: an unnamed power command answers BAD_FIELD and has stored the wake settings, and CLEAR_LOST's value is
unnamed in the host window. -/
theorem test_unnamed_commands :
    let t := after (.registerWrite (.loc 0x02#6 0xF#4 0x00010005)) act
    t.power.wakeOnAccess = true ∧ t.power.wakeOnAttention = false ∧ t.power.result = .badField ∧
    (after (.registerWrite (.host 0x12#6 both 2)) act).faults.hostResult = .badField := by decide

end Sys2Proof.Tests
end

/-! SUPPORT and PROOFS. RESUME and RETARGET by entry state (R8, R9), and the aperture accesses settled at once (R15 to R19). -/

namespace Sys2Proof.Machine

/-! ### Table commands that pass their checks (R5) -/

/-- A table command that passes its checks has its effect, the result OK and, for the host, the answer. Its effect must
not read the answer. -/
theorem tableAccess_done {s : State} {w : Window} {c : TableCmd} (h : s.canCommand w) (hr : s.tableCmdResult w c = .ok)
    (hc : (s.reply .written).tableEffect w c = (s.tableEffect w c).reply .written) :
    tableAccess w c s = (s.tableEffect w c).tableDone w .ok := by
  rw [tableAccess_taken h hr]
  cases w with
  | host =>
    simp only [hc]
    rfl
  | loc => rfl

/-! ### RESUME (R8) -/

theorem exec_resumeEntry (w : Window) (s : State) : exec (.resumeEntry w) s = .next (tableAccess w .resumeCmd s) := rfl

theorem resumeEffect_reply (r : HostReply) (e : EntryIdx) (s : State) :
    (s.reply r).resumeEffect e = (s.resumeEffect e).reply r := by
  have live_reply : (s.reply r).live e = s.live e := rfl
  unfold State.resumeEffect
  rw [live_reply]
  cases s.live e <;> rfl

theorem resumeEffect_of_live {s : State} {e : EntryIdx} {l : LiveEntry} (hl : s.live e = some l) :
    s.resumeEffect e = s.setLive e (some { l with phase := .opened, refused := 0 }) := by
  simp [State.resumeEffect, hl]

theorem resumeResult_of_live {s : State} {e : EntryIdx} {l : LiveEntry} (hl : s.live e = some l) :
    s.resumeResult e = if l.phase = .suspended then .ok else .badState := by
  simp [State.resumeResult, hl]

theorem resumeResult_of_empty {s : State} {e : EntryIdx} (hl : s.live e = none) : s.resumeResult e = .badState := by
  simp [State.resumeResult, hl]

/-! ### RETARGET (R9) -/

theorem exec_retarget (w : Window) (s : State) : exec (.retarget w) s = .next (tableAccess w .retargetCmd s) := rfl

theorem retargetEffect_reply (r : HostReply) (e : EntryIdx) (base : BitVec 20) (s : State) :
    (s.reply r).retargetEffect e base = (s.retargetEffect e base).reply r := by
  have live_reply : (s.reply r).live e = s.live e := rfl
  unfold State.retargetEffect
  rw [live_reply]
  cases s.live e <;> rfl

theorem retargetEffect_of_live {s : State} {e : EntryIdx} {l : LiveEntry} (base : BitVec 20)
    (hl : s.live e = some l) :
    s.retargetEffect e base =
      (s.setLive e (some { l with ap := { l.ap with base := base }, slideCount := 0 })).strikeEntry e := by
  simp [State.retargetEffect, hl]

theorem retargetResult_of_live {s : State} {e : EntryIdx} {l : LiveEntry} (hl : s.live e = some l) :
    s.retargetResult e =
      if l.phase ≠ .opened then .badState else if s.pendingWork e then .pendingWork else .ok := by
  simp [State.retargetResult, hl]

theorem retargetResult_of_empty {s : State} {e : EntryIdx} (hl : s.live e = none) :
    s.retargetResult e = .badState := by
  simp [State.retargetResult, hl]

section
variable {w : Window} {s : State} (h : s.canCommand w) (hb : s.power.resetBusy = false) (he : s.mayEdit w)
include h hb he

theorem resume_turned {r : Result} (hr : s.resumeResult (s.staging w).target = r) (hne : r ≠ .ok) :
    exec (.resumeEntry w) s = .next (s.tableDone w r) := by
  have own : s.tableCmdResult w .resumeCmd = r := (tableCmdResult_own hb he (by decide)).trans hr
  rw [exec_resumeEntry, tableAccess_turned h own hne]

theorem retarget_turned {r : Result} (hr : s.retargetResult (s.staging w).target = r) (hne : r ≠ .ok) :
    exec (.retarget w) s = .next (s.tableDone w r) := by
  have own : s.tableCmdResult w .retargetCmd = r := (tableCmdResult_own hb he (by decide)).trans hr
  rw [exec_retarget, tableAccess_turned h own hne]

theorem resume_taken (hr : s.resumeResult (s.staging w).target = .ok) :
    exec (.resumeEntry w) s = .next ((s.resumeEffect (s.staging w).target).tableDone w .ok) := by
  have own : s.tableCmdResult w .resumeCmd = .ok := (tableCmdResult_own hb he (by decide)).trans hr
  rw [exec_resumeEntry, tableAccess_done h own (resumeEffect_reply ..)]
  rfl

theorem retarget_taken (hr : s.retargetResult (s.staging w).target = .ok) :
    exec (.retarget w) s =
      .next ((s.retargetEffect (s.staging w).target (s.staging w).base).tableDone w .ok) := by
  have own : s.tableCmdResult w .retargetCmd = .ok := (tableCmdResult_own hb he (by decide)).trans hr
  rw [exec_retarget, tableAccess_done h own (retargetEffect_reply ..)]
  rfl
end

/-- Settles O15, by the entry's state and its pending work. -/
theorem resumeAndRetargetByState : Obligations.ResumeAndRetargetByState := by
  intro w s h hb he e pending
  have pending_iff : s.pendingWork e = true ↔ pending := pendingWork_iff s e
  refine ⟨fun hl => ⟨?resumeEmpty, ?retargetEmpty⟩, fun l hl => ⟨fun hp => ?resume, fun hp => ?resumeBadState,
    fun hp => ?retargetBadState, fun hp hw => ?retargetPending, fun hp hw => ?retarget⟩⟩
  case resumeEmpty => exact resume_turned h hb he (resumeResult_of_empty hl) (by decide)
  case retargetEmpty => exact retarget_turned h hb he (retargetResult_of_empty hl) (by decide)
  case resume =>
    have result : s.resumeResult e = .ok := by rw [resumeResult_of_live hl, if_pos hp]
    rw [resume_taken h hb he result, resumeEffect_of_live hl]
  case resumeBadState =>
    have result : s.resumeResult e = .badState := by rw [resumeResult_of_live hl, if_neg hp]
    exact resume_turned h hb he result (by decide)
  case retargetBadState =>
    have result : s.retargetResult e = .badState := by rw [retargetResult_of_live hl, if_pos hp]
    exact retarget_turned h hb he result (by decide)
  case retargetPending =>
    have result : s.retargetResult e = .pendingWork := by simp [retargetResult_of_live hl, hp, pending_iff.2 hw]
    exact retarget_turned h hb he result (by decide)
  case retarget =>
    have result : s.retargetResult e = .ok := by simp [retargetResult_of_live hl, hp, mt pending_iff.1 hw]
    rw [retarget_taken h hb he result, retargetEffect_of_live _ hl]

/-! ### Aperture accesses settled at once (R15 to R19) -/

/-- The aperture access of a direction; a read carries no data. -/
def apertureAccess (d : Direction) (ha : BitVec 23) (st : Strobes) (hd : Half) : Instr :=
  match d with
  | .read => .hostApertureRead ha st
  | .write => .hostApertureWrite ha st hd

/-- The answer of an access settled at once: filler, or the write taken and discarded (R100). -/
def settledReply (d : Direction) : HostReply :=
  match d with
  | .read => .read 0xFFFF#16
  | .write => .written

theorem exec_hostApertureRead (ha : BitVec 23) (st : Strobes) (s : State) :
    exec (.hostApertureRead ha st) s = .next (hostRead (State.apertureRead ha st) s) := rfl

theorem exec_hostApertureWrite (ha : BitVec 23) (st : Strobes) (hd : Half) (s : State) :
    exec (.hostApertureWrite ha st hd) s = .next (hostWrite (State.apertureWrite ha st hd) s) := rfl

theorem classify_reply (r : HostReply) (s : State) (a : HostAddr) (d : Direction) :
    (s.reply r).classify a d = s.classify a d := rfl

section
variable {d : Direction} {ha : BitVec 23} {st : Strobes} {hd : Half} {s : State} (h : s.hostCanAct)
include h

theorem access_without_strobe (hst : anyStrobe st = false) :
    exec (apertureAccess d ha st hd) s = .next (s.reply (settledReply d)) := by
  cases d with
  | read =>
    rw [apertureAccess, exec_hostApertureRead, hostRead_taken h, State.apertureRead, hst]
    rfl
  | write =>
    rw [apertureAccess, exec_hostApertureWrite, hostWrite_taken h, State.apertureWrite, hst]
    rfl

/-- An access of any class but admitted is answered and then has the effect of its class. -/
theorem access_settled {c : AccessClass} (hst : anyStrobe st = true) (hc : s.classify (hostAddress ha st) d = c)
    (hn : ∀ e ap, c ≠ .admitted e ap) :
    exec (apertureAccess d ha st hd) s =
      .next ((s.reply (settledReply d)).settleAccess (hostAddress ha st) d c) := by
  cases d with
  | read =>
    rw [apertureAccess, exec_hostApertureRead, hostRead_taken h, State.apertureRead, if_pos hst, hc]
    cases c with
    | admitted e ap => exact absurd rfl (hn e ap)
    | _ => rfl
  | write =>
    rw [apertureAccess, exec_hostApertureWrite, hostWrite_taken h, State.apertureWrite, if_pos hst, classify_reply, hc]
    cases c with
    | admitted e ap => exact absurd rfl (hn e ap)
    | _ => rfl
end

theorem classify_notReady {s : State} (hs : s.power.state ≠ .active ∨ s.power.resetBusy = true) (a : HostAddr)
    (d : Direction) : s.classify a d = .notReady := by
  have not_serving : ¬ s.serving = true := by
    rw [serving_iff]
    rintro ⟨hp, hb⟩
    simp [hp, hb] at hs
  simp [State.classify, not_serving]

section
variable {s : State} (hs : s.serving = true) {a : HostAddr}
include hs

theorem classify_unmapped (hn : ∀ e, ∀ l ∈ s.live e, ¬ l.ap.holdsPage (a.toNat / 4096)) (d : Direction) :
    s.classify a d = .unmapped := by
  simp [State.classify, hs, covering_none hn]

theorem classify_covered {e : EntryIdx} {l : LiveEntry} (hlaw : s.apertureLaw) (hl : s.live e = some l)
    (hp : l.ap.holdsPage (a.toNat / 4096)) (d : Direction) :
    s.classify a d =
      if l.phase ≠ .opened then .refused e else if l.ap.permits d then .admitted e l.ap else .denied e := by
  simp [State.classify, hs, covering_some hlaw hl hp]
end

/-- `fault_cases` as one equation: a record changes the fault unit only. -/
theorem fault_eq (r : FaultRecord) (s : State) :
    s.fault r = { s with faults :=
      if s.faults.queue.length < 4 then { s.faults with queue := s.faults.queue ++ [r] }
      else { s.faults with lost := satInc s.faults.lost } } := by
  rcases fault_cases r s with ⟨room, eq⟩ | ⟨full, eq⟩
  · rw [eq, if_pos room]
  · rw [eq, if_neg (Nat.not_lt.2 full)]

theorem countRefused_of_live {s : State} {e : EntryIdx} {l : LiveEntry} (hl : s.live e = some l)
    (hp : l.phase ≠ .opened) :
    s.countRefused e = s.setLive e (some { l with refused := satInc l.refused }) := by
  simp [State.countRefused, hl, hp]

theorem offerAccess_no_wake {s : State} (hs : s.power.state ≠ .dormant ∨ s.power.wakeOnAccess = false) :
    s.offerAccess = s := by
  rcases offerAccess_cases s with ⟨_, eq⟩ | ⟨hw, eq⟩
  · exact eq
  · rcases wakeBy_cases .hostAccess s with ⟨_, eq'⟩ | ⟨hd, _⟩
    · rw [eq, eq']
    · simp [hd, hw] at hs

theorem offerAccess_wakes {s : State} (hd : s.power.state = .dormant) (hw : s.power.wakeOnAccess = true) :
    s.offerAccess = { s with
      power := { s.power with state := .waking, cause := some .hostAccess }
      settings := { s.settings with powerLow := false }
      events := { s.events with
        host := { s.events.host with power := true }, loc := { s.events.loc with wake := true } } } := by
  rcases offerAccess_cases s with ⟨hw', _⟩ | ⟨_, eq⟩
  · simp [hw] at hw'
  · rcases wakeBy_cases .hostAccess s with ⟨hd', _⟩ | ⟨_, eq'⟩
    · exact absurd hd hd'
    · rw [eq, eq']
      simp

/-- Settles O16, by the class of the access. -/
theorem accessesSettledAtOnce : Obligations.AccessesSettledAtOnce := by
  intro d ha st hd s h i a done faulted
  have settled {c : AccessClass} (hst : anyStrobe st = true) (hc : s.classify a d = c)
      (hn : ∀ e ap, c ≠ .admitted e ap) : exec i s = .next (done.settleAccess a d c) :=
    access_settled h hst hc hn
  have fault_done (f : FaultRecord) : done.fault f = faulted f := fault_eq f done
  refine ⟨?noStrobe, fun hst => ⟨fun hs => ?notReady, fun hp hb => ?serving⟩⟩
  case noStrobe =>
    rintro rfl
    exact access_without_strobe h rfl
  case notReady =>
    have next : exec i s = .next done.offerAccess := settled hst (classify_notReady hs a d) nofun
    refine ⟨fun hd => ?_, fun hd hw => ?_⟩
    · rw [next, offerAccess_no_wake (s := done) hd]
    · rw [next, offerAccess_wakes (s := done) hd hw]
  case serving =>
    have serving : s.serving = true := (serving_iff s).2 ⟨hp, hb⟩
    refine ⟨fun hn => ?unmapped, fun e l hlaw hl hpage => ?covered⟩
    case unmapped =>
      have next : exec i s = .next (done.fault (unmappedFault a d)) :=
        settled hst (classify_unmapped serving hn d) nofun
      rw [next, fault_done]
      rfl
    case covered =>
      have cls := classify_covered serving hlaw hl hpage d
      refine ⟨fun hph => ?_, fun hph hperm => ?_⟩
      · have next : exec i s = .next (done.countRefused e) := settled hst (cls.trans (if_pos hph)) nofun
        rw [next, countRefused_of_live (s := done) hl hph]
      · have denied : s.classify a d = .denied e := by simp [cls, hph, hperm]
        have next : exec i s = .next (done.fault (deniedFault a d e)) := settled hst denied nofun
        rw [next, fault_done]
        rfl

end Sys2Proof.Machine

/-! SUPPORT and PROOFS. An ANSWER_REJECT of a pending proposal (R135, R137). -/

namespace Sys2Proof.Machine

/-! ### The end of a proposal (R132, R137, R139) -/

theorem withoutSetting_eq (n : NegSetting) (l : List Proposal) :
    withoutSetting n l = l.filter (fun q => q.setting ≠ n) := by
  simp [withoutSetting]

/-- The end of a setting's proposal as one equation: it keeps the serial and the value in force. -/
theorem endProposal_eq (n : NegSetting) (o : SettingOutcome) (reason : BitVec 4) (s : State) :
    s.endProposal n o reason = { s with
      settings := { s.settings.setNeg n { s.settings.neg n with outcome := o, reason := reason } with
        proposals := s.settings.proposals.filter (fun q => q.setting ≠ n) }
      events := { s.events with host := { s.events.host with answer := true } } } := by
  rw [State.endProposal, withoutSetting_eq]
  rfl

/-! ### An answer that names a pending proposal (R135) -/

section
variable {s : State} {p : Proposal} {i : BitVec 3} (hl : s.proposalLaw) (hp : p ∈ s.settings.proposals)
  (hi : negOf i = some p.setting)
include hl hp hi

/-- Under the law of R134 an answer with the setting and the serial of a pending proposal finds it, unless it is a
rejection with reason 0 or 15. -/
theorem answerCheck_of_mem {reject : Bool} {reason : BitVec 4}
    (hr : ¬ (reject = true ∧ (reason = 0#4 ∨ reason = 15#4))) :
    s.answerCheck reject i p.serial reason = .ok p := by
  have found : s.settings.proposal? p.setting = some p := proposal?_of_mem hl hp
  simp only [State.answerCheck, hi, if_neg hr, found, if_pos]

theorem answerReject_of_mem {reason : BitVec 4} (h0 : reason ≠ 0#4) (h15 : reason ≠ 15#4) :
    s.answerReject i p.serial reason = (s.endProposal p.setting .rejected reason).answerResult .ok := by
  have named : s.answerCheck true i p.serial reason = .ok p := answerCheck_of_mem hl hp hi (by simp [h0, h15])
  rw [State.answerReject, named]
end

theorem exec_answerReject (i : BitVec 3) (serial : BitVec 8) (reason : BitVec 4) (s : State) :
    exec (.answerReject i serial reason) s = .next (localWrite (State.answerReject i serial reason) s) := rfl

/-- Settles O31: the answer finds the proposal, whose end is stored with the result OK. -/
theorem answerRejectTaken : Obligations.AnswerRejectTaken := by
  intro p i reason s h hl hp hi h0 h15
  rw [exec_answerReject, localWrite_taken h, answerReject_of_mem hl hp hi h0 h15, endProposal_eq]
  rfl

end Sys2Proof.Machine

/-! SUPPORT and PROOFS. The event words and summaries of both windows and the output lines by the state (R65, R68, R76,
R85, R144 to R151, R160, R171). -/

namespace Sys2Proof.Machine

/-! ### Bits of concatenations, fields and masks -/

theorem getLsbD_append_bit_zero {n : Nat} (v : BitVec n) (b : Bool) : (v ++ bit b).getLsbD 0 = b := by
  simp only [BitVec.getLsbD_append, Nat.zero_lt_one, if_true]
  simp [bit]

theorem getLsbD_append_bit_succ {n : Nat} (v : BitVec n) (b : Bool) (k : Nat) :
    (v ++ bit b).getLsbD (k + 1) = v.getLsbD k := by
  simp [BitVec.getLsbD_append]

theorem getLsbD_bit_zero (b : Bool) : (bit b).getLsbD 0 = b := by
  simp [bit]

theorem getLsbD_setWidth_of_le {n m : Nat} (h : n ≤ m) (v : BitVec n) (k : Nat) :
    (v.setWidth m).getLsbD k = v.getLsbD k := by
  have in_width : v.getLsbD k = true → k < m := fun hk => (BitVec.lt_of_getLsbD hk).trans_le h
  simpa [BitVec.getLsbD_setWidth] using in_width

theorem getLsbD_field_zero {n : Nat} (h : n ≤ 32) (v : BitVec n) (k : Nat) :
    (field 0 v).getLsbD k = v.getLsbD k := by
  rw [field, BitVec.shiftLeft_zero, getLsbD_setWidth_of_le h]

theorem getLsbD_field_below {n p k : Nat} (h : k < p) (v : BitVec n) : (field p v).getLsbD k = false := by
  simp [field, h]

theorem and_ne_zero_iff {n : Nat} (v mask : BitVec n) :
    v &&& mask ≠ 0#n ↔ ∃ k, v.getLsbD k = true ∧ mask.getLsbD k = true := by
  constructor
  · intro nonzero
    by_contra none_set
    refine nonzero (BitVec.eq_of_getLsbD_eq fun k _ => ?_)
    have not_both : ¬ (v.getLsbD k = true ∧ mask.getLsbD k = true) := fun both => none_set ⟨k, both⟩
    simpa using not_both
  · rintro ⟨k, hv, hm⟩ zero
    have bit_clear : (v &&& mask).getLsbD k = false := by rw [zero, BitVec.getLsbD_zero]
    simp [hv, hm] at bit_clear

/-! ### Conditions (R95, R115, R121, R122, R129, R134, R146, R156) -/

theorem condFault_iff (s : State) : s.condFault = true ↔ s.faults.queue ≠ [] := by
  simp [State.condFault]

theorem condNote_iff (s : State) : s.condNote = true ↔ s.events.notes ≠ [] := by
  simp [State.condNote]

theorem condProposal_iff (s : State) : s.condProposal = true ↔ s.settings.proposals ≠ [] := by
  simp [State.condProposal]

theorem condNotice_iff (s : State) :
    s.condNotice = true ↔ s.settings.notices.s0 = true ∨ s.settings.notices.s1 = true ∨
      s.settings.notices.s2 = true ∨ s.settings.notices.s3 = true := by
  simp [State.condNotice, or_assoc]

/-- The free room shown counts for IN_SPACE in RUNNING only, where it is the FIFO's (R122). -/
theorem condInSpace_iff (s : State) :
    s.condInSpace = true ↔ s.inb.state = .running ∧
      s.stream.inThreshold.toNat ≤ if s.inb.state = .running then 32 - s.inb.fifo.length else 0 := by
  rw [State.condInSpace, Bool.and_eq_true, decide_eq_true_iff, decide_eq_true_iff]
  refine and_congr_right fun running => ?_
  rw [Inbound.freeRoom, running, if_pos rfl]
  rfl

theorem atEnd_iff (c : Outbound) : c.atEnd = true ↔ ∃ m ∈ c.marks.head?, c.fifo = [] ∧ c.consume = m := by
  unfold Outbound.atEnd
  cases c.marks with
  | nil => simp
  | cons m rest =>
    have mark_reached : m = c.consume ↔ c.consume = m := eq_comm
    simp [mark_reached, and_comm]

theorem condOutData_iff (s : State) :
    s.condOutData = true ↔
      (s.outb.state = .running ∧ s.stream.outThreshold.toNat ≤ s.outb.fifo.length) ∨ s.outb.atEnd = true := by
  simp [State.condOutData]

theorem condAttentionLevel_iff (s : State) :
    s.condAttentionLevel = true ↔ s.settings.s4.accepted = 2#4 ∧ s.pins.latn = true := by
  simp [State.condAttentionLevel]

theorem condInMessage_iff (s : State) :
    s.condInMessage = true ↔ ∃ b ∈ s.inb.boundaries.head?, b.visible = true := by
  unfold State.condInMessage
  cases s.inb.boundaries with
  | nil => simp
  | cons b rest => simp

/-! ### Members of the event words (R144, R149) -/

/-- The member of the host event set at a position of its word (R144). -/
def State.hostMember (s : State) : Nat → Bool
  | 0 => s.events.host.answer
  | 1 => s.events.host.attention
  | 2 => s.events.host.power
  | 3 => s.condFault
  | 4 => s.condNote
  | 5 => s.condInSpace
  | 6 => s.condOutData
  | 7 => s.outb.atEnd
  | 8 => s.condAttentionLevel
  | _ => false

/-- The member of the local event set at a position of its word (R149). -/
def State.localMember (s : State) : Nat → Bool
  | 0 => s.events.loc.attention
  | 1 => s.events.loc.quiesce
  | 2 => s.events.loc.cancel
  | 3 => s.events.loc.wake
  | 4 => s.events.loc.grantSlow
  | 5 => s.events.loc.table
  | 6 => s.events.loc.markTaken
  | 7 => s.events.loc.datapathDone
  | 8 => s.condProposal
  | 9 => s.condNotice
  | 10 => s.condFault
  | 11 => s.condInMessage
  | _ => false

theorem getLsbD_hostEventWord (s : State) (k : Nat) : s.hostEventWord.getLsbD k = s.hostMember k := by
  match k with
  | 0 | 1 | 2 | 3 | 4 | 5 | 6 | 7 | 8 =>
    simp only [State.hostEventWord, getLsbD_append_bit_zero, getLsbD_append_bit_succ, getLsbD_bit_zero,
      State.hostMember]
  | j + 9 => exact BitVec.getLsbD_of_ge _ _ (Nat.le_add_left 9 j)

theorem getLsbD_localEventWord (s : State) (k : Nat) : s.localEventWord.getLsbD k = s.localMember k := by
  match k with
  | 0 | 1 | 2 | 3 | 4 | 5 | 6 | 7 | 8 | 9 | 10 | 11 =>
    simp only [State.localEventWord, getLsbD_append_bit_zero, getLsbD_append_bit_succ, getLsbD_bit_zero,
      State.localMember]
  | j + 12 => exact BitVec.getLsbD_of_ge _ _ (Nat.le_add_left 12 j)

theorem getLsbD_hintSummary (s : State) (k : Nat) :
    s.hintSummary.getLsbD k = (s.hostMember k && s.settings.eventEnable.getLsbD k) := by
  rw [State.hintSummary, BitVec.getLsbD_and, getLsbD_hostEventWord]

theorem getLsbD_lintSummary (s : State) (k : Nat) :
    s.lintSummary.getLsbD k = (s.localMember k && s.events.mask.getLsbD k) := by
  rw [State.lintSummary, BitVec.getLsbD_and, getLsbD_localEventWord]

/-- The LATN level and the wake cause stand above the members in the local event register (section 10.5). -/
theorem getLsbD_localEventRegister (s : State) {k : Nat} (h : k < 12) :
    s.localEventRegister.getLsbD k = s.localMember k := by
  have latn : (flag 16 s.pins.latn).getLsbD k = false := getLsbD_field_below (by omega) _
  have cause : (field 20 (s.power.cause.elim 0 WakeCause.code)).getLsbD k = false := getLsbD_field_below (by omega) _
  have recorded : (flag 22 s.power.cause.isSome).getLsbD k = false := getLsbD_field_below (by omega) _
  simp only [State.localEventRegister, BitVec.getLsbD_or, latn, cause, recorded, Bool.or_false]
  rw [getLsbD_field_zero (by decide), getLsbD_localEventWord]

/-! ### Reads of the event registers (R144, R148, R149, R151) -/

theorem hostRegisterRead_whole {s : State} (h : s.pins.pon = false) (reg : BitVec 6) :
    hostRegisterRead s reg { hlb := true, hub := true } = s.hostWord reg := by
  simp [hostRegisterRead, h, bothStrobes]

theorem localRegisterRead_open {s : State} (h : s.localCanAct) (reg : BitVec 6) :
    localRegisterRead s reg = s.localWord reg := by
  obtain ⟨hp, hm⟩ := h
  simp [localRegisterRead, State.localOpen, hp, hm]

theorem getLsbD_read_hostEvents {s : State} (h : s.pins.pon = false) (k : Nat) :
    (hostRegisterRead s 0x10#6 { hlb := true, hub := true }).getLsbD k = s.hostMember k := by
  rw [hostRegisterRead_whole h]
  exact (getLsbD_setWidth_of_le (by decide) _ k).trans (getLsbD_hostEventWord s k)

theorem getLsbD_read_hostSummary {s : State} (h : s.pins.pon = false) (k : Nat) :
    (hostRegisterRead s 0x11#6 { hlb := true, hub := true }).getLsbD k =
      (s.hostMember k && s.settings.eventEnable.getLsbD k) := by
  rw [hostRegisterRead_whole h]
  exact (getLsbD_setWidth_of_le (by decide) _ k).trans (getLsbD_hintSummary s k)

theorem getLsbD_read_localEvents {s : State} (h : s.localCanAct) {k : Nat} (hk : k < 12) :
    (localRegisterRead s 0x0A#6).getLsbD k = s.localMember k := by
  rw [localRegisterRead_open h]
  exact getLsbD_localEventRegister s hk

theorem getLsbD_read_localSummary {s : State} (h : s.localCanAct) (k : Nat) :
    (localRegisterRead s 0x0C#6).getLsbD k = (s.localMember k && s.events.mask.getLsbD k) := by
  rw [localRegisterRead_open h]
  exact (getLsbD_field_zero (by decide) _ k).trans (getLsbD_lintSummary s k)

/-! ### Output lines outside power-on reset -/

section
variable {s : State} (h : s.pins.pon = false)
include h

theorem hint_iff :
    s.hint = true ↔ ∃ k, s.hostMember k = true ∧ s.settings.eventEnable.getLsbD k = true := by
  have summary : s.hint = true ↔ s.hintSummary ≠ 0#9 := by simp [State.hint, h]
  rw [summary, State.hintSummary, and_ne_zero_iff]
  simp only [getLsbD_hostEventWord]

theorem lint_iff : s.lint = true ↔ ∃ k, s.localMember k = true ∧ s.events.mask.getLsbD k = true := by
  have summary : s.lint = true ↔ s.lintSummary ≠ 0#12 := by simp [State.lint, h]
  rw [summary, State.lintSummary, and_ne_zero_iff]
  simp only [getLsbD_localEventWord]

theorem hready_iff : s.hready = true ↔ s.power.state = .active ∨ s.power.state = .dormant := by
  simp [State.hready, h]

theorem lpwr_iff : s.lpwr = true ↔ s.power.state = .dormant := by
  simp [State.lpwr, h]

theorem lrst_iff : s.lrst = true ↔ s.settings.moduleReset = true := by
  simp [State.lrst, h]

theorem lbreq_iff : s.lbreq = true ↔ s.master.own ≠ .released := by
  simp [State.lbreq, h]

theorem lurg_iff : s.lurg = true ↔ ∃ since, s.master.own = .requesting since .expired := by
  rw [State.lurg, h]
  cases s.master.own with
  | requesting since patience => cases patience <;> simp
  | _ => simp

theorem hwait_iff :
    s.hwait = true ↔ s.pwq.held ≠ .none ∨ s.slot.record.isSome = true ∨ s.inb.held.isSome = true ∨
      s.outb.held.isSome = true := by
  simp [State.hwait, State.hostHeld, h, or_assoc]

theorem beatShown_of_transfer {x : Transfer} {b : Beat} (hx : s.master.transfer = some x)
    (hb : x.beats[x.beatsDone]? = some b) :
    s.beatShown = some (x.first + BitVec.ofNat 32 (4 * x.beatsDone), b.lbe, b.ld) := by
  simp [State.beatShown, h, hx, hb]
end

theorem beatShown_of_no_transfer {s : State} (hx : s.master.transfer = none) : s.beatShown = none := by
  simp [State.beatShown, hx]

/-- Settles O35: the model's members are those of the statement, one by one; the lines and the reads follow them. -/
theorem interruptLinesShowEnabledMembers : Obligations.InterruptLinesShowEnabledMembers := by
  intro s hp room atEnd hostMember localMember
  have at_end : s.outb.atEnd = true ↔ atEnd := atEnd_iff s.outb
  have host (k : Nat) : s.hostMember k = true ↔ hostMember k :=
    match k with
    | 0 | 1 | 2 => Iff.rfl
    | 3 => condFault_iff s
    | 4 => condNote_iff s
    | 5 => condInSpace_iff s
    | 6 => (condOutData_iff s).trans (or_congr_right at_end)
    | 7 => at_end
    | 8 => condAttentionLevel_iff s
    | _ + 9 => Bool.false_eq_true.to_iff
  have loc (k : Nat) : s.localMember k = true ↔ localMember k :=
    match k with
    | 0 | 1 | 2 | 3 | 4 | 5 | 6 | 7 => Iff.rfl
    | 8 => condProposal_iff s
    | 9 => condNotice_iff s
    | 10 => condFault_iff s
    | 11 => condInMessage_iff s
    | _ + 12 => Bool.false_eq_true.to_iff
  refine ⟨?hint, ?lint, ?hostEvents, ?hostSummary, fun hm => ⟨?localEvents, ?localSummary⟩, hready_iff hp,
    lpwr_iff hp, lrst_iff hp, lbreq_iff hp, lurg_iff hp, hwait_iff hp, beatShown_of_no_transfer, ?beat⟩
  case hint => simpa only [host] using hint_iff hp
  case lint => simpa only [loc] using lint_iff hp
  case hostEvents =>
    intro k
    rw [getLsbD_read_hostEvents hp, host]
  case hostSummary =>
    intro k
    rw [getLsbD_read_hostSummary hp, Bool.and_eq_true, host]
  case localEvents =>
    intro k hk
    rw [getLsbD_read_localEvents ⟨hp, hm⟩ hk, loc]
  case localSummary =>
    intro k
    rw [getLsbD_read_localSummary ⟨hp, hm⟩, Bool.and_eq_true, loc]
  case beat =>
    intro x b hx hb
    refine ⟨_, beatShown_of_transfer hp hx hb, ?_⟩
    simp [BitVec.toNat_add]

end Sys2Proof.Machine

/-! SUPPORT and PROOFS. The identification registers, and the local window while MODULE_RESET is 1 (R171, R176, R177). -/

namespace Sys2Proof.Machine

/-! ### The identification registers (R177) -/

theorem read_partCode {s : State} (h : s.pins.pon = false) :
    hostRegisterRead s 0x00#6 { hlb := true, hub := true } = 0x0A28#16 := by
  rw [hostRegisterRead_whole h]
  rfl

theorem read_revision {s : State} (h : s.pins.pon = false) :
    hostRegisterRead s 0x01#6 { hlb := true, hub := true } = 1#16 := by
  rw [hostRegisterRead_whole h]
  rfl

theorem read_localIdentification {s : State} (h : s.localCanAct) : localRegisterRead s 0x00#6 = 0x00010A28#32 := by
  rw [localRegisterRead_open h]
  rfl

theorem hostWindowWrite_identification {reg : BitVec 6} (h : reg = 0x00#6 ∨ reg = 0x01#6) (hd : Half) (s : State) :
    s.hostWindowWrite reg { hlb := true, hub := true } hd = s := by
  rcases h with rfl | rfl <;> rfl

theorem localWindowWrite_identification (ld : Word) (s : State) : s.localWindowWrite 0x00#6 0xF#4 ld = s := rfl

theorem exec_hostWindowWrite (reg : BitVec 6) (st : Strobes) (hd : Half) (s : State) :
    exec (.registerWrite (.host reg st hd)) s = .next (hostWrite (State.hostWindowWrite reg st hd) s) := rfl

theorem exec_localWindowWrite (reg : BitVec 6) (lbe : BitVec 4) (ld : Word) (s : State) :
    exec (.registerWrite (.loc reg lbe ld)) s = .next (localWrite (State.localWindowWrite reg lbe ld) s) := rfl

/-! ### The closed local window (R93, R171, R176) -/

theorem localWrite_closed {s : State} (h : s.localOpen = false) (f : State → State) : localWrite f s = s := by
  simp [localWrite, h]

/-- A local write whose effect leaves the state as it is does so whether it is taken or not. -/
theorem localWrite_of_fixed {s : State} {f : State → State} (h : f s = s) : localWrite f s = s := by
  simp [localWrite, h]

theorem localRegisterRead_closed {s : State} (h : s.localOpen = false) (reg : BitVec 6) :
    localRegisterRead s reg = 0#32 := by
  simp [localRegisterRead, h]

theorem localOpen_of_moduleReset {s : State} (h : s.settings.moduleReset = true) : s.localOpen = false := by
  simp [State.localOpen, h]

/-- The commands that are writes of the local window. -/
def localCommand : Instr → Bool
  | .faultPop .loc | .clearLost | .openEntry .loc | .closeEntry .loc | .resumeEntry .loc | .retarget .loc
  | .setEditable .loc | .moduleReady .. | .remain .. | .dormantConfirm .. | .wake .. | .datapathReset | .notice _
  | .answerAccept .. | .answerReject .. | .localEvent _ | .localMask _ | .invalidateLines | .freshness _
  | .grantPatience _ | .yieldHonor _ | .ringSettingWrite .. | .inConsume _ | .outProduce _ | .indexRefusedClear
  | .inStart | .inStop | .inRestart | .inPop | .outStart | .outStop | .outRestart | .outMark _ | .notePost _
  | .noteFullClear | .registerWrite (.loc ..) => true
  | _ => false

/-- A local command has an effect of its own, made where the local window takes writes. -/
theorem exec_localCommand : ∀ {i : Instr}, localCommand i = true → ∃ f, ∀ s, exec i s = .next (localWrite f s)
  | .faultPop .loc, _ | .clearLost, _ | .openEntry .loc, _ | .closeEntry .loc, _ | .resumeEntry .loc, _
  | .retarget .loc, _ | .setEditable .loc, _ | .moduleReady .., _ | .remain .., _ | .dormantConfirm .., _
  | .wake .., _ | .datapathReset, _ | .notice _, _ | .answerAccept .., _ | .answerReject .., _ | .localEvent _, _
  | .localMask _, _ | .invalidateLines, _ | .freshness _, _ | .grantPatience _, _ | .yieldHonor _, _
  | .ringSettingWrite .., _ | .inConsume _, _ | .outProduce _, _ | .indexRefusedClear, _ | .inStart, _ | .inStop, _
  | .inRestart, _ | .inPop, _ | .outStart, _ | .outStop, _ | .outRestart, _ | .outMark _, _ | .notePost _, _
  | .noteFullClear, _ | .registerWrite (.loc ..), _ => ⟨_, fun _ => rfl⟩

theorem localCommand_ignored {s : State} (h : s.localOpen = false) {i : Instr} (hi : localCommand i = true) :
    exec i s = .next s := by
  obtain ⟨f, effect⟩ := exec_localCommand hi
  rw [effect, localWrite_closed h]

theorem localCommands_ignored {s : State} (h : s.localOpen = false) {l : List Instr}
    (hl : l.all localCommand = true) : ∀ i ∈ l, exec i s = .next s :=
  fun i hi => localCommand_ignored h (List.all_eq_true.mp hl i hi)

/-- Settles O51: the reads are the stored constants, a write of an identification register has no effect, and every
local command is a write of a window that MODULE_RESET closes. -/
theorem identificationRegisters : Obligations.IdentificationRegisters := by
  intro s hp
  refine ⟨read_partCode hp, read_revision hp, fun hm => read_localIdentification ⟨hp, hm⟩, ?hostWrite, ?localWrite,
    fun hm => ?closed⟩
  case hostWrite =>
    intro reg hd hh hreg
    rw [exec_hostWindowWrite, hostWrite_taken ⟨hp, hh⟩, hostWindowWrite_identification hreg]
    rfl
  case localWrite =>
    intro ld
    rw [exec_localWindowWrite, localWrite_of_fixed (localWindowWrite_identification ld s)]
  case closed =>
    have shut : s.localOpen = false := localOpen_of_moduleReset hm
    have ignored {i : Instr} (hi : localCommand i = true) : exec i s = .next s := localCommand_ignored shut hi
    exact ⟨localRegisterRead_closed shut, fun _ _ _ => ignored rfl, localCommands_ignored shut rfl,
      fun _ _ => localCommands_ignored shut rfl, fun _ _ _ => ⟨ignored rfl, ignored rfl⟩, fun _ => ignored rfl,
      fun _ => ignored rfl, fun _ => ignored rfl, fun _ => ignored rfl, fun _ => ignored rfl, fun _ => ignored rfl,
      fun _ _ => ignored rfl, fun _ => ignored rfl, fun _ => ignored rfl, fun _ => ignored rfl, fun _ => ignored rfl⟩

end Sys2Proof.Machine

/-! SUPPORT. What a step can do: every command is a chain of changes, each the smallest that the laws of
Sys2Proof/Safety.lean keep by itself, and of tests of the bus; every StepKeeps statement is one case analysis over them. -/

namespace Sys2Proof.Machine

/-! ### Changes that leave the bus and its clients alone -/

/-- Two states differ at most in fields that no law reads: results, flags, latched events, staging records and the like. -/
def Quiet (s t : State) : Prop :=
  { t with
    table := { s.table with entries := t.table.entries }
    lineset := { t.lineset with freshness := s.lineset.freshness, result := s.lineset.result }
    faults := { s.faults with queue := t.faults.queue }
    inb := { t.inb with
      base := s.inb.base, drop := s.inb.drop, hold := s.inb.hold, msgLen := s.inb.msgLen, damaged := s.inb.damaged }
    outb := { t.outb with base := s.outb.base, hold := s.outb.hold }
    stream := { s.stream with inThreshold := t.stream.inThreshold, outThreshold := t.stream.outThreshold }
    settings := { t.settings with
      eventEnable := s.settings.eventEnable, stallLimit := s.settings.stallLimit
      answerLimit := s.settings.answerLimit, notices := s.settings.notices, answerResult := s.settings.answerResult }
    events := { s.events with notes := t.events.notes }
    power := { s.power with state := t.power.state, resetBusy := t.power.resetBusy }
    pins := { t.pins with latn := s.pins.latn }
    pending := s.pending } = s

/-- A change after which the same clients are eligible and the bus stands as before. -/
inductive Still (s : State) : State → Prop
  /-- A field that no law reads. -/
  | quiet {t : State} (h : Quiet s t) : Still s t
  /-- An access answered at once. -/
  | reply (r : HostReply) (hr : r ≠ .held) (hh : s.hostHeld = false ∨ s.pins.pon = true) : Still s (s.reply r)
  /-- MODULE_RESET written 0 (R171). -/
  | unreset : Still s { s with settings := { s.settings with moduleReset := false } }
  /-- A stall timer without a transaction stops. -/
  | untimed : Still s { s with stall := none }
  /-- Notes posted to a list with room, or popped. -/
  | notes (l : List (BitVec 16)) (h : l.length ≤ 4 ∨ l.length ≤ s.events.notes.length) :
      Still s { s with events := { s.events with notes := l } }
  /-- Fault records stored in a queue with room, or popped. -/
  | faults (l : List FaultRecord) (h : l.length ≤ 4 ∨ l.length ≤ s.faults.queue.length) :
      Still s { s with faults := { s.faults with queue := l } }
  /-- IN_THRESHOLD in its range. -/
  | inThreshold (v : BitVec 6) (h : 2 ≤ v.toNat ∧ v.toNat ≤ 32) :
      Still s { s with stream := { s.stream with inThreshold := v } }
  /-- OUT_THRESHOLD in its range. -/
  | outThreshold (v : BitVec 6) (h : 1 ≤ v.toNat ∧ v.toNat ≤ 32) :
      Still s { s with stream := { s.stream with outThreshold := v } }
  /-- ACK_LIMIT, never 0. -/
  | ackLimit (v : BitVec 8) (h : v ≠ 0#8) : Still s { s with master := { s.master with ackLimit := v } }
  /-- Lines struck, filled or emptied: none becomes good for another address. -/
  | lines (ls : LineSet) (h : ∀ i, (ls.line i).holds = none ∨ (ls.line i).holds = (s.lineset.line i).holds) :
      Still s { s with lineset := ls }
  /-- An EMPTY entry opened on a legal range that no other entry shares (R6). -/
  | opened (e : EntryIdx) (l : LiveEntry) (he : s.live e = none) (hp : l.phase = .opened)
      (hl : l.ap.size.toNat ≤ 8 ∧ l.ap.page.toNat % pageCount l.ap.size = 0)
      (hd : ∀ f, ∀ m ∈ s.live f, ∀ p, ¬ (l.ap.holdsPage p ∧ m.ap.holdsPage p)) : Still s (s.setLive e (some l))
  /-- An entry closed that has no record, or is SUSPENDED and so has none (R7, R98). -/
  | closed (e : EntryIdx) (h : (∀ r ∈ s.pwq.records, r.entry ≠ e) ∨ ∃ l ∈ s.live e, l.phase = .suspended) :
      Still s (s.setLive e none)
  /-- An entry with records closed (R7). -/
  | drained (e : EntryIdx) (l : LiveEntry) (hl : s.live e = some l) (h : ∃ r ∈ s.pwq.records, r.entry = e) :
      Still s (s.setLive e (some { l with phase := .draining }))
  /-- A SUSPENDED entry resumed (R8). -/
  | resumed (e : EntryIdx) (l m : LiveEntry) (hl : s.live e = some l) (hp : m.phase = .opened)
      (hr : m.ap.page = l.ap.page ∧ m.ap.size = l.ap.size) : Still s (s.setLive e (some m))
  /-- An entry that keeps its state and its host range. -/
  | entry (e : EntryIdx) (l m : LiveEntry) (hl : s.live e = some l) (hp : m.phase = l.phase)
      (hr : m.ap.page = l.ap.page ∧ m.ap.size = l.ap.size) : Still s (s.setLive e (some m))
  /-- The host-editable field of an entry (R10). -/
  | editable (e : EntryIdx) (v : Bool) : Still s (s.setEditableEffect e v)
  /-- A write that waits for a slot enters and waits for its record (R32, R34). -/
  | rewait (w : HostWrite) (q : BitVec 8) (h : s.pwq.held = .slotWait w) : Still s (s.setHeld (.recordWait q))
  /-- The host of a held aperture write released. -/
  | freeWrite (r : HostReply) (hr : r ≠ .held) (h : s.pwq.held ≠ .none) :
      Still s ((s.setHeld .none).releaseHost r)
  /-- The host of a held Stream Data write released. -/
  | freeIn (r : HostReply) (hr : r ≠ .held) (h : s.inb.held.isSome = true) :
      Still s ((s.setInb { s.inb with held := none }).releaseHost r)
  /-- The host of a held Stream Data read released. -/
  | freeOut (r : HostReply) (hr : r ≠ .held) (h : s.outb.held.isSome = true) :
      Still s ((s.setOutb { s.outb with held := none }).releaseHost r)
  /-- The host held on an aperture write (R31, R34). -/
  | holdWrite (h : HeldWrite) (hh : s.hostHeld = false) (ha : s.power.state = .active ∧ s.pins.pon = false)
      (hn : h ≠ .none) : Still s ((s.setHeld h).holdHost .pwq)
  /-- The host held on a read that waits for order (R46). -/
  | holdRead (r : ReadRecord) (hh : s.hostHeld = false) (ha : s.power.state = .active ∧ s.pins.pon = false)
      (hp : r.phase = .orderWait) : Still s ((s.setRead (some r)).holdHost .readSlot)
  /-- The host held on a Stream Data write (R110). -/
  | holdIn (b : List Byte) (hh : s.hostHeld = false) (ha : s.power.state = .active ∧ s.pins.pon = false)
      (hs : s.inb.state = .running) : Still s ((s.setInb { s.inb with held := some b }).holdHost .inbound)
  /-- The host held on a Stream Data read (R120). -/
  | holdOut (st : Strobes) (hh : s.hostHeld = false) (ha : s.power.state = .active ∧ s.pins.pon = false)
      (hs : s.outb.state = .running) : Still s ((s.setOutb { s.outb with held := some st }).holdHost .outbound)
  /-- The kind of a waiting read (R55). -/
  | readKind (r : ReadRecord) (k : ReadKind) (h : s.slot.record = some r) : Still s (s.setRead (some { r with kind := k }))
  /-- A proposal made (R133). -/
  | proposed (n : NegSetting) (v : BitVec 4) (h : inRange n v = true) : Still s (s.propose n v)
  /-- A proposal ended (R132, R136, R137, R139). -/
  | unproposed (n : NegSetting) (o : SettingOutcome) (r : BitVec 4) (h : o ≠ .pending) : Still s (s.endProposal n o r)
  /-- The value of a proposal accepted (R136). -/
  | accepted (p : Proposal) (h : p ∈ s.settings.proposals) : Still s (s.setAccepted p.setting p.value)

/-! ### Changes of the clients -/

/-- The state with other records. -/
def State.setRecords (rs : List WriteRecord) (s : State) : State := { s with pwq := { s.pwq with records := rs } }

/-- What the failure of a record does to its entry (R97). -/
def State.markFailed (e : EntryIdx) (s : State) : State :=
  match s.live e with
  | some l =>
    match l.phase with
    | .opened => s.setLive e (some { l with phase := .suspended })
    | .draining => s.setLive e none
    | .suspended => s
  | none => s

/-- A change that may make a client eligible or take its work away, but for what is in flight. `ending` says that it is
made at the end of a transfer: there the time and the power state stand, and there only, in states that no run reaches,
bytes and records enter a DORMANT bridge. -/
inductive Change (ending : Prop) (s : State) : State → Prop
  | still {t : State} (h : Still s t) : Change ending s t
  /-- A timer's moment reached. -/
  | later (n : Nat) (he : ¬ ending) : Change ending s { s with now := n }
  /-- A power state with S1 (R162 to R168). -/
  | power (p : PowerState) (low : Bool) (hh : s.hostHeld = true → s.power.state = .active → p = .active)
      (hr : s.settings.moduleReset = true → s.power.state = .starting → p = .starting)
      (hl : p = .quiescing ∨ p = .dormant →
        low = true ∨ (s.power.state = .quiescing ∨ s.power.state = .dormant) ∧ low = s.settings.powerLow)
      (hd : p = .dormant → s.power.state = .dormant ∨ s.drained = true) (he : ¬ ending) :
      Change ending s { s with
        power := { s.power with state := p }, settings := { s.settings with powerLow := low } }
  /-- A write combined into the tail record (R30). -/
  | merged (rs : List WriteRecord)
      (h : rs.map (fun r => (r.entry, r.word, r.inFlight)) = s.pwq.records.map (fun r => (r.entry, r.word, r.inFlight))) :
      Change ending s (s.setRecords rs)
  /-- A record of an OPEN entry whose word no good line holds (R29, R33). -/
  | appended (r : WriteRecord) (n : BitVec 8) (hf : r.inFlight = false) (hn : s.pwq.records.length < 16)
      (ho : s.isOpen r.entry = true) (hr : s.pwq.held = .none → s.slot.record = none)
      (hl : ∀ i, ∀ a ∈ (s.lineset.line i).holds, lineAddr r.word ≠ a) (hd : s.power.state = .dormant → ending) :
      Change ending s { s with pwq := { s.pwq with records := s.pwq.records ++ [r], seq := n } }
  /-- A record leaves and its entry stays as it is (R41). -/
  | left (r : WriteRecord) (older newer : List WriteRecord) (h : s.pwq.records = older ++ r :: newer)
      (hf : r.inFlight = false) (hd : ∀ l ∈ s.live r.entry, l.phase = .draining → ∃ q ∈ older ++ newer, q.entry = r.entry) :
      Change ending s (s.setRecords (older ++ newer))
  /-- The last record of a DRAINING entry leaves (R12, R41). -/
  | emptied (r : WriteRecord) (older newer : List WriteRecord) (h : s.pwq.records = older ++ r :: newer)
      (hf : r.inFlight = false) (hd : ∀ q ∈ older ++ newer, q.entry ≠ r.entry) :
      Change ending s ((s.setRecords (older ++ newer)).setLive r.entry none)
  /-- A read passes to BUS_WAIT (R47). -/
  | ordered (r : ReadRecord) (h : s.slot.record = some r) (hp : r.phase = .orderWait)
      (ho : s.pwq.records = [] ∧ s.slot.orphan = none) : Change ending s (s.setRead (some { r with phase := .busWait }))
  /-- A read that is not in flight answered (R52, R57, R58). -/
  | readEnded (r : ReadRecord) (a : HostReply) (ha : a ≠ .held) (h : s.slot.record = some r)
      (hp : r.phase ≠ .inFlight) : Change ending s ((s.setRead none).releaseHost a)
  /-- A read in flight answered by the Stall Monitor (R58). -/
  | orphaned (r : ReadRecord) (o : Orphan) (a : HostReply) (ha : a ≠ .held) (h : s.slot.record = some r)
      (hp : r.phase = .inFlight) : Change ending s (((s.setRead none).releaseHost a).setOrphan (some o))
  /-- Bytes enter the inbound FIFO (R109, R110). -/
  | entered (bytes : List Byte) (l : Linger) (n : Nat) (hb : bytes.length ≤ s.inb.room)
      (hd : s.power.state = .dormant → ending) :
      Change ending s (s.setInb { s.inb with fifo := s.inb.fifo ++ bytes, linger := l, msgLen := n })
  /-- Another change of the inbound channel, one that keeps the ring in order. -/
  | inbound (c : Inbound) (hb : c.boundaries.length ≤ 8 ∨ c.boundaries.length ≤ s.inb.boundaries.length)
      (hf : c.fifo.length ≤ s.inb.fifo.length) (hh : c.held = s.inb.held)
      (hs : c.held.isSome = true → s.inb.state = .running → c.state = .running ∨ s.power.resetBusy = true)
      (hl : s.inboundLaw → (s.setInb c).inboundLaw) : Change ending s (s.setInb c)
  /-- A change of the outbound channel. -/
  | outbound (c : Outbound) (hm : c.marks.length ≤ 8 ∨ c.marks.length ≤ s.outb.marks.length) (hh : c.held = s.outb.held)
      (hs : c.held.isSome = true → s.outb.state = .running → c.state = .running ∨ s.power.resetBusy = true) :
      Change ending s (s.setOutb c)

/-- A chain of changes. -/
abbrev Changes (ending : Prop) : State → State → Prop := Relation.ReflTransGen (Change ending)

/-- What the end of a transfer takes from its client: what was in flight. -/
inductive Finish (x : Transfer) (s : State) : State → Prop
  /-- A record leaves and its entry stays as it is (R36). -/
  | left (hc : x.client = .pwq) (r : WriteRecord) (rest : List WriteRecord) (h : s.pwq.records = r :: rest)
      (hd : ∀ l ∈ s.live r.entry, l.phase = .draining → ∃ q ∈ rest, q.entry = r.entry) :
      Finish x s (s.setRecords rest)
  /-- The last record of a DRAINING entry leaves (R12, R36). -/
  | emptied (hc : x.client = .pwq) (r : WriteRecord) (rest : List WriteRecord) (h : s.pwq.records = r :: rest)
      (hd : ∀ q ∈ rest, q.entry ≠ r.entry) : Finish x s ((s.setRecords rest).setLive r.entry none)
  /-- A record fails with its entry's other records (R96, R97). -/
  | failed (hc : x.client = .pwq) (r : WriteRecord) (rest : List WriteRecord) (h : s.pwq.records = r :: rest) :
      Finish x s ((s.setRecords (rest.filter (fun q => !decide (q.entry = r.entry)))).markFailed r.entry)
  /-- The read in flight answered (R49, R51). -/
  | read (hc : x.client = .readSlot) (r : ReadRecord) (a : HostReply) (ha : a ≠ .held) (h : s.slot.record = some r)
      (hp : r.phase = .inFlight) : Finish x s ((s.setRead none).releaseHost a)
  /-- The orphan's transfer ended (R59). -/
  | orphan (hc : x.client = .readSlot) (h : ∀ r ∈ s.slot.record, r.phase ≠ .inFlight) : Finish x s (s.setOrphan none)
  /-- A move applied (R113). -/
  | moved (hc : x.client = .inbound) : Finish x s (s.setInb (s.inb.moved x.runLen))
  /-- Nothing in flight to take: a failed move, a fetch, and a client that has no work, as no run has. -/
  | nothing (hw : x.client = .pwq → s.pwq.records = [])
      (hr : x.client = .readSlot → (∀ r ∈ s.slot.record, r.phase ≠ .inFlight) ∧ s.slot.orphan = none) : Finish x s s

end Sys2Proof.Machine

/-! SUPPORT. The operations of the queue, the Read Slot, the channels and the table as chains of changes. -/

namespace Sys2Proof.Machine

/-! ### Operations that are chains of changes -/

/-- A chain of changes that leave the bus and its clients alone. -/
abbrev Stills : State → State → Prop := Relation.ReflTransGen Still

variable {ending : Prop}

theorem Stills.changes {s t : State} (h : Stills s t) : Changes ending s t :=
  Relation.ReflTransGen.mono (fun _ _ => Change.still) _ _ h

theorem Still.chain {s t : State} (h : Still s t) : Stills s t := .single h

theorem Change.chain {s t : State} (h : Change ending s t) : Changes ending s t := .single h

theorem Still.changes {s t : State} (h : Still s t) : Changes ending s t := h.chain.changes

/-! #### Entries, lines and fault records -/

theorem slideAt_stills (e : EntryIdx) (w : Word) (s : State) : Stills s (s.slideAt e w) := by
  rcases slideAt_cases e w s with eq | ⟨l, hl, _, _, _, eq⟩ <;> rw [eq]
  exact Still.chain (.entry e l _ hl rfl ⟨rfl, rfl⟩)

theorem countRefused_stills (e : EntryIdx) (s : State) : Stills s (s.countRefused e) := by
  unfold State.countRefused
  split
  next l hl =>
    split
    · rfl
    · exact Still.chain (.entry e l _ hl rfl ⟨rfl, rfl⟩)
  next => rfl

theorem fault_stills (r : FaultRecord) (s : State) : Stills s (s.fault r) := by
  rcases fault_cases r s with ⟨room, eq⟩ | ⟨_, eq⟩ <;> rw [eq]
  · exact Still.chain (.faults _ (.inl (by simpa using room)))
  · exact Still.chain (.quiet rfl)

theorem strikeIf_holds (p : Line → Bool) (ls : LineSet) (i : LineIdx) :
    ((ls.strikeIf p).line i).holds = none ∨ ((ls.strikeIf p).line i).holds = (ls.line i).holds := by
  rw [strikeIf_line]
  split
  · exact .inl (strike_holds _)
  · exact .inr rfl

theorem strike_still (p : Line → Bool) (s : State) : Still s { s with lineset := s.lineset.strikeIf p } :=
  .lines _ (strikeIf_holds p s.lineset)

theorem strikeWord_still (w : Word) (s : State) : Still s (s.strikeWord w) := strike_still _ s
theorem strikeWords_still (ws : List Word) (s : State) : Still s (s.strikeWords ws) := strike_still _ s
theorem strikeEntry_still (e : EntryIdx) (s : State) : Still s (s.strikeEntry e) := strike_still _ s
theorem strikeAll_still (s : State) : Still s s.strikeAll := strike_still _ s
theorem latchTable_still (s : State) : Still s s.latchTable := .quiet rfl

theorem setLine_still {i : LineIdx} {l : Line} {s : State} (h : l.holds = none ∨ l.holds = (s.lineset.line i).holds) :
    Still s (s.setLine i l) := by
  refine .lines _ fun j => ?_
  rw [line_setLine]
  split
  next heq => exact heq ▸ h
  next => exact .inr rfl

theorem filled_holds (words : List Word) (now : Nat) (l : Line) :
    (l.filled words now).holds = none ∨ (l.filled words now).holds = l.holds := by
  match l with
  | .invalid | .filling true _ _ | .filling false _ _ | .valid _ _ _ _ => simp [Line.filled, Line.holds]

theorem fillLine_stills (i : Option LineIdx) (words : List Word) (s : State) : Stills s (s.fillLine i words) := by
  cases i with
  | none => rfl
  | some i => exact (setLine_still (filled_holds ..)).chain

theorem dropLine_stills (i : Option LineIdx) (s : State) : Stills s (s.dropLine i) := by
  cases i with
  | none => rfl
  | some i => exact (setLine_still (.inl rfl)).chain

/-! #### Posted and STRICT writes -/

theorem combineTail_alike (w : HostWrite) (l rs : List WriteRecord) (h : combineTail w l = some rs) :
    rs.map (fun r => (r.entry, r.word, r.inFlight)) = l.map (fun r => (r.entry, r.word, r.inFlight)) := by
  induction l generalizing rs with
  | nil => simp [combineTail] at h
  | cons r l ih =>
    cases l with
    | nil =>
      simp only [combineTail, Option.ite_none_right_eq_some, Option.some.injEq] at h
      rw [← h.2]
      rfl
    | cons t l =>
      simp only [combineTail, Option.map_eq_some_iff] at h
      obtain ⟨rs', h', rfl⟩ := h
      simp [ih rs' h']

theorem strikeWord_holds (w : Word) (s : State) (i : LineIdx) :
    ∀ a ∈ ((s.strikeWord w).lineset.line i).holds, lineAddr w ≠ a := by
  have covered {l : Line} {a : Word} (h : a ∈ l.holds) (ha : lineAddr w = a) : l.covers w = true := by
    match l with
    | .invalid | .filling true _ _ => simp [Line.holds] at h
    | .filling false _ _ | .valid _ _ _ _ =>
      simp only [Line.holds, Option.mem_def, Option.some.injEq] at h
      simp [Line.covers, Line.addr?, h, ha]
  intro a h ha
  have eq : (s.strikeWord w).lineset.line i = _ := strikeIf_line s.lineset (fun l => l.covers w) i
  rw [eq] at h
  split at h
  next => simp [strike_holds] at h
  next hc => exact hc (covered h ha)

theorem slideAt_pwq (e : EntryIdx) (w : Word) (s : State) : (s.slideAt e w).pwq = s.pwq :=
  (congrArg State.pwq (slideAt_frame e w s) :)

section
variable {w : HostWrite} {s t : State} (h : s.place w = some t)
include h

theorem place_changes (ho : s.isOpen w.entry = true) (hr : s.pwq.held = .none → s.slot.record = none)
    (hd : s.power.state = .dormant → ending) : Changes ending s t := by
  rcases place_cases w s with ⟨rs, hc, eq⟩ | ⟨_, hl, eq⟩ | ⟨_, _, eq⟩ <;> rw [eq] at h <;> cases h
  · exact ((Change.merged rs (combineTail_alike w _ _ hc)).chain.tail (.still (strikeWord_still ..))).trans
      (slideAt_stills ..).changes
  · exact ((strikeWord_still w.word s).changes.tail
      (.appended (newRecord w s.pwq.seq) (s.pwq.seq + 1) rfl hl ho hr (strikeWord_holds w.word s) hd)).trans
      (slideAt_stills ..).changes

theorem place_held : t.pwq.held = s.pwq.held := by
  rcases place_cases w s with ⟨rs, _, eq⟩ | ⟨_, _, eq⟩ | ⟨_, _, eq⟩ <;> rw [eq] at h <;> cases h <;>
    simp only [State.admitted, slideAt_pwq] <;> rfl

end

theorem endWaiting_stills {w : HostWrite} {s : State} (h : s.pwq.held = .slotWait w) :
    Stills s (s.endWaiting w) :=
  (Still.freeWrite .written nofun (by simp [h])).chain.trans (countRefused_stills ..)

theorem retryWaiting_changes (s : State) : Changes True s s.retryWaiting := by
  rcases retryWaiting_cases s with eq | ⟨w, hw, ⟨_, eq⟩ | ⟨t, ho, ht, eq⟩⟩ <;> rw [eq]
  · exact (endWaiting_stills hw).changes
  · have placed : Changes True s t := place_changes ht ho (by simp [hw]) (fun _ => trivial)
    have held : t.pwq.held = .slotWait w := (place_held ht).trans hw
    split
    · exact placed.trans (Still.rewait w _ held).changes
    · exact placed.trans (Still.freeWrite .written nofun (by simp [held])).changes

theorem releaseWaiter_stills (seqs : List (BitVec 8)) (s : State) : Stills s (s.releaseWaiter seqs) := by
  rcases releaseWaiter_cases seqs s with ⟨⟨q, _, hq⟩, eq⟩ | ⟨_, eq⟩ <;> rw [eq]
  exact (Still.freeWrite .written nofun (by simp [hq])).chain

theorem releaseWaiter_setRecords (seqs : List (BitVec 8)) (rs : List WriteRecord) (s : State) :
    (s.setRecords rs).releaseWaiter seqs = (s.releaseWaiter seqs).setRecords rs := by
  have held : (s.setRecords rs).pwq.held = s.pwq.held := rfl
  unfold State.releaseWaiter
  rw [held]
  cases s.pwq.held with
  | recordWait q =>
    simp only
    split <;> rfl
  | _ => rfl

theorem releaseWaiter_records (seqs : List (BitVec 8)) (s : State) :
    (s.releaseWaiter seqs).pwq.records = s.pwq.records := by
  rcases releaseWaiter_cases seqs s with ⟨_, eq⟩ | ⟨_, eq⟩ <;> rw [eq]
  rfl

theorem leave_changes {s : State} {r : WriteRecord} {older newer : List WriteRecord}
    (h : s.pwq.records = older ++ r :: newer) (hf : r.inFlight = false) :
    Changes ending s ((s.setRecords (older ++ newer)).afterLeave r.entry) := by
  rcases afterLeave_cases r.entry (s.setRecords (older ++ newer)) with ⟨l, _, _, hq, eq⟩ | ⟨hd, eq⟩ <;> rw [eq]
  · exact (Change.emptied r older newer h hf hq).chain.tail (.still (latchTable_still _))
  · exact (Change.left r older newer h hf hd).chain

/-! #### Reads -/

theorem answerRead_changes {s : State} {r : ReadRecord} (h : s.slot.record = some r) (hp : r.phase ≠ .inFlight)
    (d : Word) : Changes ending s (s.answerRead r d) :=
  (Change.readEnded r (.read (r.lanes.answer d)) nofun h hp).chain.trans (slideAt_stills ..).changes

theorem fillRead_changes {s : State} {r : ReadRecord} (h : s.slot.record = some r) (hp : r.phase ≠ .inFlight) :
    Changes ending s s.fillRead :=
  (Change.readEnded r fillerReply nofun h hp).chain

theorem testOrder_changes (s : State) : Changes ending s s.testOrder := by
  rcases testOrder_cases s with eq | ⟨r, hr, hp, hq, ho, eq | ⟨d, _, _, _, eq⟩⟩ <;> rw [eq]
  · exact (Change.ordered r hr hp ⟨hq, ho⟩).chain
  · exact answerRead_changes hr (by simp [hp]) d

theorem fillSuspended_changes (e : EntryIdx) (s : State) : Changes ending s (s.fillSuspended e) := by
  rcases fillSuspended_cases e s with eq | ⟨r, hr, hp, _, eq⟩ <;> rw [eq]
  exact fillRead_changes hr (by simp [hp])

/-! #### The end of a record's transfer -/

/-- From `s` the transfer ends: changes that leave the bus and its clients alone, the end itself, and changes that follow
from it. -/
def Ended (x : Transfer) (s u : State) : Prop :=
  ∃ v w, Stills s v ∧ Finish x v w ∧ Changes True w u

theorem Ended.before {x : Transfer} {s t u : State} (h : Ended x t u) (hs : Stills s t) : Ended x s u := by
  obtain ⟨v, w, stills, finish, changes⟩ := h
  exact ⟨v, w, hs.trans stills, finish, changes⟩

theorem Ended.after {x : Transfer} {s t u : State} (h : Ended x s t) (hc : Changes True t u) : Ended x s u := by
  obtain ⟨v, w, stills, finish, changes⟩ := h
  exact ⟨v, w, stills, finish, changes.trans hc⟩

theorem Ended.of_nothing {x : Transfer} {s : State} (hw : x.client = .pwq → s.pwq.records = [])
    (hr : x.client = .readSlot → (∀ r ∈ s.slot.record, r.phase ≠ .inFlight) ∧ s.slot.orphan = none) : Ended x s s :=
  ⟨s, s, .refl, .nothing hw hr, .refl⟩

theorem afterLeave_ended {x : Transfer} {s : State} {r : WriteRecord} {rest : List WriteRecord} (hc : x.client = .pwq)
    (h : s.pwq.records = r :: rest) : Ended x s ((s.setRecords rest).afterLeave r.entry) := by
  rcases afterLeave_cases r.entry (s.setRecords rest) with ⟨l, _, _, hq, eq⟩ | ⟨hd, eq⟩ <;> rw [eq]
  · exact ⟨s, _, .refl, .emptied hc r rest h hq, (latchTable_still _).changes⟩
  · exact ⟨s, _, .refl, .left hc r rest h hd, .refl⟩

theorem completeHead_ended {x : Transfer} (hc : x.client = .pwq) (s : State) : Ended x s s.completeHead := by
  unfold State.completeHead
  split
  next r rest hr =>
    have left : Ended x (s.releaseWaiter [r.seq]) (((s.setRecords rest).releaseWaiter [r.seq]).afterLeave r.entry) := by
      rw [releaseWaiter_setRecords]
      exact afterLeave_ended hc ((releaseWaiter_records ..).trans hr)
    exact (left.before (releaseWaiter_stills ..)).after ((retryWaiting_changes _).trans (testOrder_changes _))
  next hr => exact .of_nothing (fun _ => hr) (by simp [hc])

theorem markFailed_fault (r : FaultRecord) (e : EntryIdx) (s : State) :
    (s.fault r).markFailed e = (s.markFailed e).fault r := by
  have live : (s.fault r).live e = s.live e := (congrArg (fun t : State => t.live e) (fault_frame r s) :)
  unfold State.markFailed
  rw [live]
  split
  · split <;> simp only [fault_eq] <;> rfl
  · rfl

theorem failEntry_eq (e : EntryIdx) (s : State) : s.failEntry e = (s.markFailed e).latchTable.strikeEntry e := by
  unfold State.failEntry State.markFailed
  cases s.live e with
  | none => rfl
  | some l => cases l.phase <;> rfl

theorem failHead_ended {x : Transfer} (hc : x.client = .pwq) (k : FaultKind) (s : State) :
    Ended x s (s.failHead k) := by
  unfold State.failHead
  split
  next r rest hr =>
    have failed : Ended x s
        (((s.setRecords (rest.filter (fun q => !decide (q.entry = r.entry)))).fault
          (writeFault r k (rest.filter (fun q => decide (q.entry = r.entry))).length)).failEntry r.entry) := by
      rw [failEntry_eq, markFailed_fault]
      exact ⟨s, _, .refl, .failed hc r rest hr,
        (((fault_stills ..).changes).tail (.still (latchTable_still _))).tail (.still (strikeEntry_still ..))⟩
    have retried := (releaseWaiter_stills (r.seq :: (rest.filter (fun q => decide (q.entry = r.entry))).map (·.seq))
      (((s.setRecords (rest.filter (fun q => !decide (q.entry = r.entry)))).fault
          (writeFault r k (rest.filter (fun q => decide (q.entry = r.entry))).length)).failEntry r.entry)).changes.trans
      (retryWaiting_changes _)
    refine failed.after ((Relation.ReflTransGen.trans retried ?_).trans (testOrder_changes _))
    split
    · exact fillSuspended_changes ..
    · rfl
  next hr => exact .of_nothing (fun _ => hr) (by simp [hc])

/-! #### The end of a read's and of an orphan's transfer -/

theorem readDone_ended {x : Transfer} {s : State} {r : ReadRecord} (hc : x.client = .readSlot)
    (h : s.slot.record = some r) (hp : r.phase = .inFlight) (words : List Word) : Ended x s (s.readDone r words) := by
  have slot : (s.fillLine r.line words).slot = s.slot := by cases r.line <;> rfl
  exact ⟨_, _, fillLine_stills r.line words s, .read hc r (.read (r.lanes.answer (r.wanted words))) nofun
    ((congrArg ReadSlot.record slot).trans h) hp, (slideAt_stills ..).changes⟩

theorem readFailed_ended {x : Transfer} {s : State} {r : ReadRecord} (hc : x.client = .readSlot)
    (h : s.slot.record = some r) (hp : r.phase = .inFlight) (k : FaultKind) : Ended x s (s.readFailed r k) := by
  have slot : (s.dropLine r.line).slot = s.slot := by cases r.line <;> rfl
  exact ⟨_, _, dropLine_stills r.line s, .read hc r fillerReply nofun ((congrArg ReadSlot.record slot).trans h) hp,
    (fault_stills ..).changes⟩

theorem orphanDone_ended {x : Transfer} {s : State} (o : Orphan) (hc : x.client = .readSlot)
    (h : ∀ r ∈ s.slot.record, r.phase ≠ .inFlight) (words : List Word) : Ended x s (s.orphanDone o words) := by
  have slot : (s.fillLine o.line words).slot = s.slot := by cases o.line <;> rfl
  exact ⟨_, _, fillLine_stills o.line words s, .orphan hc (by rw [slot]; exact h), testOrder_changes _⟩

theorem orphanFailed_ended {x : Transfer} {s : State} (o : Orphan) (hc : x.client = .readSlot)
    (h : ∀ r ∈ s.slot.record, r.phase ≠ .inFlight) (k : FaultKind) (addr : Word) :
    Ended x s (s.orphanFailed o k addr) := by
  have slot : (s.dropLine o.line).slot = s.slot := by cases o.line <;> rfl
  exact ⟨_, _, dropLine_stills o.line s, .orphan hc (by rw [slot]; exact h),
    (fault_stills ..).changes.trans (testOrder_changes _)⟩

/-- The end of an orphan's transfer, where there is an orphan. -/
theorem orphanEnd_ended {x : Transfer} {s : State} {f : Orphan → State} (hc : x.client = .readSlot)
    (h : ∀ r ∈ s.slot.record, r.phase ≠ .inFlight) (hf : ∀ o, Ended x s (f o)) :
    Ended x s (s.slot.orphan.elim s f) := by
  cases ho : s.slot.orphan with
  | none => exact .of_nothing (by simp [hc]) (fun _ => ⟨h, ho⟩)
  | some o => exact hf o

theorem slotDone_ended {x y : Transfer} (hc : x.client = .readSlot) (s : State) : Ended x s (s.slotDone y) := by
  unfold State.slotDone
  split
  next r hr =>
    split
    next hp => exact readDone_ended hc hr hp _
    next hp =>
      have still : ∀ q ∈ s.slot.record, q.phase ≠ .inFlight := by simpa [hr] using hp
      exact orphanEnd_ended hc still fun o => orphanDone_ended o hc still _
  next hr =>
    have still : ∀ q ∈ s.slot.record, q.phase ≠ .inFlight := by simp [hr]
    exact orphanEnd_ended hc still fun o => orphanDone_ended o hc still _

theorem slotFailed_ended {x y : Transfer} (hc : x.client = .readSlot) (k : FaultKind) (s : State) :
    Ended x s (s.slotFailed y k) := by
  unfold State.slotFailed
  split
  next r hr =>
    split
    next hp => exact readFailed_ended hc hr hp k
    next hp =>
      have still : ∀ q ∈ s.slot.record, q.phase ≠ .inFlight := by simpa [hr] using hp
      exact orphanEnd_ended hc still fun o => orphanFailed_ended o hc still k _
  next hr =>
    have still : ∀ q ∈ s.slot.record, q.phase ≠ .inFlight := by simp [hr]
    exact orphanEnd_ended hc still fun o => orphanFailed_ended o hc still k _

/-! #### The inbound channel -/

theorem retryStream_changes (s : State) : Changes True s s.retryStream := by
  rcases retryStream_cases s with eq | ⟨bytes, hh, hb, eq⟩ <;> rw [eq]
  exact (Still.freeIn .written nofun (by simp [hh])).changes.tail
    (.entered bytes (if s.inb.fifo = [] ∧ bytes ≠ [] then .running s.now else s.inb.linger) _ hb (fun _ => trivial))

/-- The ring law looks at the ring and at whether the channel may move; it does not notice a stop with an empty FIFO. -/
theorem inboundLaw_of_same_ring {s : State} {c : Inbound} (hr : c.produce = s.inb.produce ∧ c.consume = s.inb.consume ∧
    c.size = s.inb.size) (hf : c.fifo = s.inb.fifo ∧ (c.state = .running ∨ c.state = .flushing) ∨ s.inb.fifo = [] ∨
      (s.inb.state ≠ .running ∧ s.inb.state ≠ .flushing) ∨ s.master.transfer = none) :
    s.inboundLaw → (s.setInb c).inboundLaw := by
  obtain ⟨hp, hc, hz⟩ := hr
  rintro ⟨h1, h2, h3, h4⟩
  refine ⟨by simpa [hp, hz] using h1, by simpa [hc, hz] using h2, by simpa [Inbound.occupancy, hp, hc, hz] using h3,
    fun x hx hc' hd => ?_⟩
  obtain ⟨hs, hn, hl, hfree⟩ := h4 x hx hc' hd
  rcases hf with ⟨hf, hst⟩ | hf | ⟨hst, hst'⟩ | hx'
  · exact ⟨hst, hn, by simpa [hf] using hl, by simpa [Inbound.ringFree, Inbound.occupancy, hp, hc, hz] using hfree⟩
  · simp [hf] at hl
    omega
  · simp_all
  · simp_all

theorem flushed_changes (s : State) : Changes ending s (s.setInb s.inb.flushed) := by
  unfold Inbound.flushed
  split
  next h =>
    obtain ⟨hs, hf⟩ := h
    exact Change.chain (.inbound _ (.inr le_rfl) le_rfl rfl (by simp [hs])
      (inboundLaw_of_same_ring ⟨rfl, rfl, rfl⟩ (.inr (.inl hf))))
  next => rfl

theorem moveDone_ended {x : Transfer} (hc : x.client = .inbound) (words : List Word) (s : State) :
    Ended x s (s.moveDone x.runLen words) :=
  ⟨s, _, .refl, .moved hc,
    ((strikeWords_still ..).changes.trans (retryStream_changes _)).trans (flushed_changes _)⟩

theorem endHeldStream_stills (s : State) : Stills s s.endHeldStream := by
  unfold State.endHeldStream
  split
  next hh =>
    exact (Still.freeIn .written nofun (by simp [hh])).chain.tail (Still.quiet rfl)
  next => rfl

theorem endHeldStream_held (s : State) : s.endHeldStream.inb.held = none := by
  rw [endHeldStream_eq]

theorem moveFailed_changes (k : FaultKind) (words : List Word) (addr : Word) {s : State} (h : s.master.transfer = none) :
    Changes True s (s.moveFailed k words addr) := by
  have halted : Changes True s.endHeldStream
      (s.endHeldStream.setInb { s.endHeldStream.inb with state := .halted }) :=
    Change.chain (.inbound _ (.inr le_rfl) le_rfl rfl (by simp [endHeldStream_held])
      (inboundLaw_of_same_ring ⟨rfl, rfl, rfl⟩ (.inr (.inr (.inr (by rw [endHeldStream_eq]; exact h))))))
  have reordered : ((s.setInb { s.inb with state := .halted }).strikeWords words).endHeldStream =
      (s.endHeldStream.setInb { s.endHeldStream.inb with state := .halted }).strikeWords words := by
    simp only [endHeldStream_eq]
    rfl
  unfold State.moveFailed
  rw [reordered]
  exact (((endHeldStream_stills s).changes.trans halted).tail (.still (strikeWords_still ..))).trans (fault_stills ..).changes

theorem dropHeldStream_stills (s : State) : Stills s s.dropHeldStream := by
  unfold State.dropHeldStream
  split
  next hh => exact (Still.freeIn .written nofun (by simp [hh])).chain.tail (Still.quiet rfl)
  next => rfl

theorem unlessResetting_stills {f : State → State} (h : ∀ s, Stills s (f s)) (s : State) :
    Stills s (unlessResetting f s) := by
  rcases unlessResetting_cases f s with ⟨_, eq⟩ | ⟨_, eq⟩ <;> rw [eq]
  exact h s

theorem stopIn_changes (s : State) : Changes ending s s.stopIn := by
  rcases stopIn_cases s with ⟨hs, eq⟩ | ⟨hs, eq⟩ | ⟨_, eq⟩ <;> rw [eq]
  · have ended := (unlessResetting_stills endHeldStream_stills s).changes (ending := ending)
    have after : (unlessResetting State.endHeldStream s).inb.held.isSome = true →
        (unlessResetting State.endHeldStream s).power.resetBusy = true := by
      rcases unlessResetting_cases State.endHeldStream s with ⟨_, eq⟩ | ⟨hb, eq⟩ <;> rw [eq]
      · simp [endHeldStream_held]
      · exact fun _ => hb
    unfold State.stopRunningIn
    simp only
    split
    next hf =>
      exact ended.tail (.inbound _ (.inr le_rfl) le_rfl rfl (fun hh _ => .inr (after hh))
        (inboundLaw_of_same_ring ⟨rfl, rfl, rfl⟩ (.inr (.inl hf))))
    next hf =>
      exact ended.tail (.inbound _ (.inr le_rfl) le_rfl rfl (fun hh _ => .inr (after hh))
        (inboundLaw_of_same_ring ⟨rfl, rfl, rfl⟩ (.inl ⟨rfl, .inr rfl⟩)))
  · exact Change.chain (.inbound _ (.inr (List.length_filter_le ..)) (Nat.zero_le _) rfl (by simp [hs])
      (inboundLaw_of_same_ring ⟨rfl, rfl, rfl⟩ (.inr (.inr (.inl (by simp [hs]))))))

/-! #### The outbound channel -/

theorem judgeRead_changes (s : State) : Changes ending s s.judgeRead := by
  rcases judgeRead_cases s with eq | ⟨st, hh, _, _, eq⟩ <;> rw [eq]
  exact (Still.freeOut (s.outb.readReply st (streamTake st s.outb.available)) nofun (by simp [hh])).changes.tail
    (.outbound { s.outb.taken (streamTake st s.outb.available) with held := none } (.inr le_rfl) rfl (by simp))

theorem endHeldRead_stills (s : State) : Stills s s.endHeldRead := by
  unfold State.endHeldRead
  split
  next hh => exact (Still.freeOut fillerReply nofun (by simp [hh])).chain.tail (Still.quiet rfl)
  next => rfl

theorem fetchDone_changes (n : Nat) (bytes : List Byte) (s : State) : Changes ending s (s.fetchDone n bytes) := by
  rcases fetchDone_cases n bytes s with ⟨_, eq⟩ | ⟨_, eq⟩ <;> rw [eq]
  exact (Change.outbound (s.outb.fetched bytes n) (.inr le_rfl) rfl (fun _ h => .inl h)).chain.trans
    (judgeRead_changes _)

theorem fetchFailed_changes (k : FaultKind) (addr : Word) (s : State) : Changes ending s (s.fetchFailed k addr) := by
  have reordered : (s.setOutb { s.outb with state := .halted }).endHeldRead =
      s.endHeldRead.setOutb { s.endHeldRead.outb with state := .halted } := by
    simp only [endHeldRead_eq]
    rfl
  unfold State.fetchFailed
  refine Relation.ReflTransGen.trans ?_ (fault_stills ..).changes
  split
  · rfl
  · rw [reordered]
    exact (endHeldRead_stills s).changes.tail (.outbound _ (.inr le_rfl) rfl (by simp [endHeldRead_eq]))

theorem voidFetch_changes (s : State) : Changes ending s s.voidFetch := by
  rcases voidFetch_cases s with ⟨_, eq⟩ | ⟨_, eq⟩ <;> rw [eq]
  exact Change.chain (.outbound _ (.inr le_rfl) rfl (fun _ h => .inl h))

theorem voidFetch_eq (s : State) :
    s.voidFetch = s.setOutb { s.outb with fetchVoid := s.outb.fetchVoid || s.inFlight .outbound } := by
  rcases voidFetch_cases s with ⟨hx, eq⟩ | ⟨hx, eq⟩ <;> rw [eq, hx] <;> simp [State.setOutb]

/-- An OUT_STOP ends the held read first or last: the two touch different fields. -/
theorem stopRunningOut_eq (s : State) :
    s.stopRunningOut =
      let t := unlessResetting State.endHeldRead s
      (t.setOutb { t.outb with state := .off, fifo := [], fetch := t.outb.consume }).voidFetch := by
  unfold State.stopRunningOut unlessResetting
  simp only [voidFetch_eq, endHeldRead_eq]
  split
  next hb => rw [if_pos (show s.power.resetBusy = true from hb)]
  next hb =>
    rw [if_neg (show ¬ s.power.resetBusy = true from hb)]
    rfl

theorem stopOut_changes (s : State) : Changes ending s s.stopOut := by
  rcases stopOut_cases s with ⟨_, eq⟩ | ⟨_, eq⟩ <;> rw [eq]
  rw [stopRunningOut_eq]
  have after : (unlessResetting State.endHeldRead s).outb.held.isSome = true →
      (unlessResetting State.endHeldRead s).power.resetBusy = true := by
    rcases unlessResetting_cases State.endHeldRead s with ⟨_, eq⟩ | ⟨hb, eq⟩ <;> rw [eq]
    · simp [endHeldRead_eq]
    · exact fun _ => hb
  have stopped : Changes ending s ((unlessResetting State.endHeldRead s).setOutb
      { (unlessResetting State.endHeldRead s).outb with
        state := .off, fifo := [], fetch := (unlessResetting State.endHeldRead s).outb.consume }) :=
    (unlessResetting_stills endHeldRead_stills s).changes.tail
      (.outbound _ (.inr le_rfl) rfl (fun hh _ => .inr (after hh)))
  exact stopped.trans (voidFetch_changes _)

/-! #### A wake -/

theorem drained_iff (s : State) :
    s.drained = true ↔ s.pwq.records = [] ∧ s.slot.record = none ∧ s.slot.orphan = none ∧ s.inb.fifo = [] ∧
      s.master.transfer = none := by
  simp [State.drained, and_assoc]

end Sys2Proof.Machine

/-! SUPPORT. The events that commands are made of, and the commands of the table, the settings and power as chains of
them. -/

namespace Sys2Proof.Machine

/-! ### Acts: what a command is made of -/

/-- A move of the lines of the bus, of its settings and of its timers, outside power-on reset. -/
inductive BusMove (s : State) : State → Prop
  | grant : BusMove s s.takeGrantLine
  | withdrawal : BusMove s s.takeWithdrawal
  | yield : BusMove s s.takeYield
  | unyield : BusMove s s.takeUnyield
  | honor (v : Bool) : BusMove s (s.writeYieldHonor v)
  | patience (v : BitVec 8) : BusMove s (s.writeGrantPatience v)
  | patienceExpired : BusMove s s.expireGrantPatience
  | holdExpired : BusMove s s.expireHold

/-- The state with no transfer in flight. -/
def State.withoutTransfer (s : State) : State := { s with master := { s.master with transfer := none } }

/-- What the end of a transfer does before the bus settles: nothing where the transfer is discarded, else its result is
handed to the client (R67). `s` has no transfer any more. -/
inductive Delivered (x : Transfer) (s : State) : State → Prop
  | discarded (h : x.discard = true) : Delivered x s s
  | done (h : x.discard = false) (y : Transfer) (hy : y.client = x.client ∧ y.runLen = x.runLen) :
      Delivered x s (s.deliverOk y)
  | failed (h : x.discard = false) (k : FaultKind) : Delivered x s (s.deliverFailure x k)

theorem Delivered.ended {x : Transfer} {s u : State} (h : Delivered x s u) (ht : s.master.transfer = none) :
    x.discard = true ∧ u = s ∨ x.discard = false ∧ Ended x s u := by
  cases h with
  | discarded h => exact .inl ⟨h, rfl⟩
  | done h y hy =>
    refine .inr ⟨h, ?_⟩
    obtain ⟨client, runLen⟩ := hy
    unfold State.deliverOk
    split
    next hc => exact slotDone_ended (client.symm.trans hc) s
    next hc => exact completeHead_ended (client.symm.trans hc) s
    next hc =>
      rw [runLen]
      exact moveDone_ended (client.symm.trans hc) _ s
    next hc => exact (Ended.of_nothing (by simp [← client, hc]) (by simp [← client, hc])).after (fetchDone_changes ..)
  | failed h k =>
    refine .inr ⟨h, ?_⟩
    unfold State.deliverFailure
    split
    next hc => exact slotFailed_ended hc k s
    next hc => exact failHead_ended hc k s
    next hc => exact (Ended.of_nothing (by simp [hc]) (by simp [hc])).after (moveFailed_changes k _ _ ht)
    next hc => exact (Ended.of_nothing (by simp [hc]) (by simp [hc])).after (fetchFailed_changes ..)

/-- The events that commands are made of. -/
inductive Act (s : State) : State → Prop
  | still {t : State} (h : Still s t) : Act s t
  /-- A change of a client that leaves the eligible clients as they are. -/
  | calm {t : State} (h : Change False s t) (he : t.anyEligible = s.anyEligible) (hn : t.now = s.now) : Act s t
  /-- Changes that end with the tests of the bus. -/
  | polled {u : State} (hp : s.pins.pon = false) (h : Changes False s u) : Act s u.poll
  | bus {t : State} (hp : s.pins.pon = false) (h : BusMove s t) : Act s t
  /-- The lines while PON is asserted, and its deassertion. -/
  | pins (p : Pins) (hp : s.pins.pon = true) : Act s { s with pins := p }
  /-- Time passes while PON is asserted. -/
  | idle (n : Nat) (hp : s.pins.pon = true) : Act s { s with now := n }
  /-- The moment of a beat's expiry. -/
  | late (n : Nat) (hx : s.master.transfer.isSome = true) : Act s { s with now := n }
  | powerOn : Act s s.powerOn
  | moduleReset (hp : s.pins.pon = false) (hh : s.hostHeld = false) : Act s s.moduleResetBegin
  | carriedOut (hp : s.pins.pon = false) (hx : s.master.transfer = none) : Act s s.carryOut
  | discarded (x : Transfer) (hp : s.pins.pon = false) (hx : s.master.transfer = some x) :
      Act s { s with
        power := { s.power with resetBusy := true }
        master := { s.master with transfer := some { x with discard := true } } }
  /-- A beat that is not the last. -/
  | beat (x : Transfer) (ld : Word) (hp : s.pins.pon = false) (hx : s.master.transfer = some x)
      (hl : x.beatsDone + 1 < x.beats.length) : Act s (s.startTransfer (x.acked ld s.beatTimer))
  | ended (x : Transfer) (n : Nat) {u : State} (hp : s.pins.pon = false) (hx : s.master.transfer = some x)
      (h : Delivered x s.withoutTransfer u) : Act s (if s.power.resetBusy then u.carryOut else u.settle n)

/-- A chain of events. -/
abbrev Acts : State → State → Prop := Relation.ReflTransGen Act

theorem Act.chain {s t : State} (h : Act s t) : Acts s t := .single h

theorem Stills.acts {s t : State} (h : Stills s t) : Acts s t :=
  Relation.ReflTransGen.mono (fun _ _ => Act.still) _ _ h

theorem Still.acts {s t : State} (h : Still s t) : Acts s t := Act.chain (.still h)

theorem Changes.polled {s t : State} (h : Changes False s t) (hp : s.pins.pon = false) : Acts s t.poll :=
  Act.chain (.polled hp h)

/-! #### Commands that leave the bus alone -/

theorem popFault_stills (w : Window) (s : State) : Stills s (s.popFault w) := by
  unfold State.popFault
  split
  next _ rest hq =>
    have popped : Still s { s with faults := { s.faults with queue := rest } } := .faults rest (.inr (by simp [hq]))
    exact popped.chain.tail (by cases w <;> exact .quiet rfl)
  next => cases w <;> exact Still.chain (.quiet rfl)

theorem popNote_stills (s : State) : Stills s s.popNote := by
  unfold State.popNote
  split
  next _ rest hq =>
    have popped : Still s { s with events := { s.events with notes := rest } } := .notes rest (.inr (by simp [hq]))
    exact popped.chain.tail (.quiet rfl)
  next => exact Still.chain (.quiet rfl)

theorem postNote_stills (c : BitVec 16) (s : State) : Stills s (s.postNote c) := by
  unfold State.postNote
  split
  next h => exact Still.chain (.notes _ (.inl (by simpa using h)))
  next => exact Still.chain (.quiet rfl)

theorem tableResult_still (w : Window) (r : Result) (s : State) : Still s (s.tableResult w r) := by
  cases w <;> exact .quiet rfl

theorem popResult_still (w : Window) (r : Result) (s : State) : Still s (s.popResult w r) := by
  cases w <;> exact .quiet rfl

/-- A table command whose result is OK has passed its own check. -/
theorem own_of_tableCmdResult {s : State} {w : Window} {c : TableCmd} (h : s.tableCmdResult w c = .ok) :
    match c with
    | .openCmd => s.openResult (s.staging w) = .ok
    | .closeCmd => s.closeResult (s.staging w).target = .ok
    | .resumeCmd => s.resumeResult (s.staging w).target = .ok
    | .retargetCmd => s.retargetResult (s.staging w).target = .ok
    | .setEditableCmd => True := by
  unfold State.tableCmdResult at h
  split at h
  · cases c <;> first | exact h | trivial
  next hr => exact absurd h hr

theorem Staging.aperture_size {g : Staging} {ap : Aperture} (h : g.aperture = some ap) : ap.size.toNat ≤ 8 := by
  unfold Staging.aperture at h
  split at h
  · split at h
    next hs =>
      cases h
      exact hs
    next => cases h
  · cases h

theorem openEffect_stills {s : State} {g : Staging} (h : s.openResult g = .ok) : Stills s (s.openEffect g) := by
  unfold State.openResult at h
  unfold State.openEffect
  split at h
  · cases h
  next hl =>
    split at h
    · cases h
    next ap hap =>
      split at h
      · cases h
      next halign =>
        split at h
        · cases h
        next hover =>
          rw [overlaps_iff] at hover
          simp only [hap]
          exact Still.chain (.opened _ (openedEntry ap) hl rfl ⟨Staging.aperture_size hap, not_not.mp halign⟩
            fun f m hm p hp => hover ⟨f, m, hm, p, hp⟩)

theorem endWaitingOf_stills (e : EntryIdx) (s : State) : Stills s (s.endWaitingOf e) := by
  unfold State.endWaitingOf
  split
  next w hw =>
    split
    · exact endWaiting_stills hw
    · rfl
  · rfl
  · rfl

theorem hasRecord_iff (s : State) (e : EntryIdx) : s.hasRecord e = true ↔ ∃ r ∈ s.pwq.records, r.entry = e := by
  simp [State.hasRecord]

theorem closeEffect_stills {s : State} {e : EntryIdx} (h : s.closeResult e = .ok) : Stills s (s.closeEffect e) := by
  unfold State.closeResult at h
  unfold State.closeEffect
  split at h
  next l hl =>
    split at h
    · cases h
    next hnd =>
      have entry : Still s (if l.phase = .opened ∧ s.hasRecord e = true then
          s.setLive e (some { l with phase := .draining }) else s.setLive e none) := by
        split
        next hc => exact .drained e l hl ((hasRecord_iff s e).1 hc.2)
        next hc =>
          refine .closed e ?_
          cases hp : l.phase with
          | opened => exact .inl fun r hr he => hc ⟨hp, (hasRecord_iff s e).2 ⟨r, hr, he⟩⟩
          | suspended => exact .inr ⟨l, hl, hp⟩
          | draining => exact absurd hp hnd
      exact (entry.chain.tail (strikeEntry_still ..)).trans (endWaitingOf_stills ..)
  · cases h

theorem resumeEffect_stills {s : State} {e : EntryIdx} : Stills s (s.resumeEffect e) := by
  unfold State.resumeEffect
  split
  next l hl => exact Still.chain (.resumed e l _ hl rfl ⟨rfl, rfl⟩)
  next => rfl

theorem retargetEffect_stills (e : EntryIdx) (base : BitVec 20) (s : State) : Stills s (s.retargetEffect e base) := by
  unfold State.retargetEffect
  split
  next l hl =>
    have moved : Still s (s.setLive e (some { l with ap := { l.ap with base := base }, slideCount := 0 })) :=
      .entry e l _ hl rfl ⟨rfl, rfl⟩
    exact moved.chain.tail (strikeEntry_still ..)
  next => rfl

theorem tableCommand_stills (w : Window) (c : TableCmd) (s : State) : Stills s (s.tableCommand w c) := by
  unfold State.tableCommand
  simp only
  refine Relation.ReflTransGen.tail ?_ (tableResult_still ..)
  split
  next h =>
    have own := own_of_tableCmdResult h
    cases c with
    | openCmd => exact openEffect_stills own
    | closeCmd => exact closeEffect_stills own
    | resumeCmd => exact resumeEffect_stills
    | retargetCmd => exact retargetEffect_stills ..
    | setEditableCmd => exact Still.chain (.editable ..)
  next => rfl

theorem writeNegotiated_still (n : NegSetting) (v : BitVec 4) (s : State) : Still s (s.writeNegotiated n v) := by
  unfold State.writeNegotiated
  split
  next h => exact .proposed n v h
  next => exact .unproposed n _ _ nofun

theorem lineToSingle_stills (s : State) : Stills s s.lineToSingle := by
  unfold State.lineToSingle
  split
  next r hr =>
    split
    · rfl
    · exact Still.chain (.readKind r .single hr)
  next => rfl

theorem handChange_changes (n : NegSetting) (v : BitVec 4) (s : State) : Changes False s (s.handChange n v) := by
  unfold State.handChange
  split
  · split
    · exact (stopIn_changes s).trans (stopOut_changes _)
    · rfl
  · split
    · exact Stills.changes ((strikeAll_still s).chain.trans (lineToSingle_stills _))
    · rfl
  · rfl
  · rfl

theorem acceptProposal_changes {p : Proposal} {s : State} (h : p ∈ s.settings.proposals) :
    Changes False s (s.acceptProposal p.setting p.value) := by
  have stored : Changes False s ((s.setAccepted p.setting p.value).endProposal p.setting .accepted 0#4) :=
    Stills.changes ((Still.accepted p h).chain.tail (.unproposed p.setting .accepted 0#4 nofun))
  unfold State.acceptProposal
  simp only
  split
  · exact stored.trans (handChange_changes ..)
  · exact stored

theorem mem_of_answerCheck {s : State} {reject : Bool} {i : BitVec 3} {serial : BitVec 8} {reason : BitVec 4}
    {p : Proposal} (h : s.answerCheck reject i serial reason = .ok p) : p ∈ s.settings.proposals := by
  unfold State.answerCheck at h
  split at h
  · cases h
  · split at h
    · cases h
    · split at h
      next q hq =>
        split at h <;> cases h
        exact List.mem_of_find?_eq_some hq
      next => cases h

theorem answerAccept_acts (i : BitVec 3) (serial : BitVec 8) (reason : BitVec 4) {s : State}
    (hp : s.pins.pon = false) : Acts s (s.answerAccept i serial reason) := by
  unfold State.answerAccept
  split
  next p h =>
    exact Changes.polled ((acceptProposal_changes (mem_of_answerCheck h)).tail (.still (.quiet rfl))) hp
  next => exact Still.acts (.quiet rfl)

theorem answerReject_stills (i : BitVec 3) (serial : BitVec 8) (reason : BitVec 4) (s : State) :
    Stills s (s.answerReject i serial reason) := by
  unfold State.answerReject
  split
  next p _ => exact (Still.unproposed p.setting .rejected reason nofun).chain.tail (.quiet rfl)
  next => exact Still.chain (.quiet rfl)

theorem writeFreshness_still (v : BitVec 8) (s : State) : Still s (s.writeFreshness v) :=
  .lines _ (strikeIf_holds (fun l => l.aged v s.now) s.lineset)

theorem takeInvalidate_stills (s : State) : Stills s s.takeInvalidate :=
  (strikeAll_still s).chain.tail (.quiet rfl)

/-! #### Power (R162 to R168) -/

/-- The power state matters to the clients only by ACTIVE and QUIESCING, which serve fetches (R77). -/
theorem anyEligible_power {s : State} {p : PowerState} (g : Settings)
    (h : p = .active ∨ p = .quiescing ↔ s.power.state = .active ∨ s.power.state = .quiescing) :
    State.anyEligible { s with power := { s.power with state := p }, settings := g } = s.anyEligible := by
  have serves : (decide (p = .active) || decide (p = .quiescing)) =
      (decide (s.power.state = .active) || decide (s.power.state = .quiescing)) := by
    rw [Bool.eq_iff_iff]
    simpa using h
  simp only [State.anyEligible, State.streamEligible, State.eligible, serves]
  rfl

theorem wakeBy_acts (c : WakeCause) (s : State) : Acts s (s.wakeBy c) := by
  rcases wakeBy_cases c s with ⟨_, eq⟩ | ⟨hd, eq⟩ <;> rw [eq]
  have woken (low : Bool) : Act s
      { s with power := { s.power with state := .waking }, settings := { s.settings with powerLow := low } } :=
    .calm (.power .waking low (by simp [hd]) (by simp [hd]) (by simp) (by simp) id)
      (anyEligible_power _ (by simp [hd])) rfl
  split
  · exact (woken s.settings.powerLow).chain.tail (.still (.quiet rfl))
  · exact (woken false).chain.tail (.still (.quiet rfl))

theorem offerAccess_acts (s : State) : Acts s s.offerAccess := by
  unfold State.offerAccess
  split
  · exact wakeBy_acts ..
  · rfl

theorem writePowerRequest_acts (low : Bool) {s : State} (hh : s.hostHeld = false) :
    Acts s (s.writePowerRequest low) := by
  unfold State.writePowerRequest
  have stored (h : s.power.state ≠ .quiescing ∧ s.power.state ≠ .dormant ∨ low = true) :
      Acts s (s.setPowerLow low).notice1 :=
    (Act.calm (.power s.power.state low (by simp [hh]) (fun _ h => h)
      (fun hq => h.elim (fun h => absurd hq (by simp [h])) .inl) .inl id)
      (anyEligible_power _ Iff.rfl) rfl).chain.tail (.still (.quiet rfl))
  have moved (p : PowerState) (hr : s.power.state ≠ .starting)
      (hl : p = .quiescing ∨ p = .dormant → low = true) (hd : p = .dormant → s.power.state = .dormant)
      (hs : p = .active ∨ p = .quiescing ↔ s.power.state = .active ∨ s.power.state = .quiescing) :
      Act s { s with power := { s.power with state := p }, settings := { s.settings with powerLow := low } } :=
    .calm (.power p low (by simp [hh]) (fun _ h => absurd h hr) (fun hq => .inl (hl hq)) (fun h => .inl (hd h)) id)
      (anyEligible_power _ hs) rfl
  simp only
  split
  next h => exact stored (.inl (by simp [h]))
  next h => exact stored (.inl (by simp [h]))
  next h =>
    split
    next hlow =>
      exact (moved .quiescing (by simp [h]) (fun _ => hlow) nofun (by simp [h])).chain.tail (.still (.quiet rfl))
    next => exact stored (.inl (by simp [h]))
  next h =>
    split
    next hlow => exact stored (.inr hlow)
    next => exact (moved .active (by simp [h]) nofun nofun (by simp [h])).chain.tail (.still (.quiet rfl))
  next h =>
    split
    next hlow => exact stored (.inr hlow)
    next =>
      have woken : ((s.setPowerLow low).notice1.wakeBy .hostRequest) = _ :=
        ((wakeBy_cases .hostRequest (s.setPowerLow low).notice1).resolve_left fun hn => hn.1 h).2
      rw [woken]
      exact (moved .waking (by simp [h]) nofun nofun (by simp [h])).chain.tail (.still (.quiet rfl))

theorem storeWake_still (a b : Bool) (s : State) : Still s (s.storeWake a b) := .quiet rfl

theorem powerResult_still (r : Result) (s : State) : Still s (s.powerResult r) := .quiet rfl

theorem becomeReady_changes {s : State} (hm : s.settings.moduleReset = false)
    (hs : s.power.state = .starting ∨ s.power.state = .waking) : Changes False s s.becomeReady := by
  have moved (p : PowerState) (hp : p = .quiescing ∨ p = .dormant → s.settings.powerLow = true) (hd : p ≠ .dormant) :
      Change False s { s with power := { s.power with state := p } } :=
    .power p s.settings.powerLow (fun _ h => by simp [h] at hs) (by simp [hm]) (fun h => .inl (hp h))
      (fun h => absurd h hd) id
  unfold State.becomeReady
  simp only
  split
  next hl => exact (moved .quiescing (fun _ => hl) nofun).chain.tail (.still (.quiet rfl))
  next => exact (moved .active nofun nofun).chain.tail (.still (.quiet rfl))

theorem takeReady_acts {s : State} (hp : s.pins.pon = false) (hm : s.settings.moduleReset = false) :
    Acts s s.takeReady := by
  have ready (hs : s.power.state = .starting ∨ s.power.state = .waking) :
      Acts s (s.becomeReady.powerResult .ok).poll :=
    Changes.polled ((becomeReady_changes hm hs).tail (.still (powerResult_still ..))) hp
  unfold State.takeReady
  split
  next h => exact ready (.inl h)
  next h => exact ready (.inr h)
  all_goals exact Still.acts (powerResult_still ..)

theorem takeRemain_acts (s : State) : Acts s s.takeRemain := by
  unfold State.takeRemain
  split
  next h =>
    have active : Act s
        { s with power := { s.power with state := .active }, settings := { s.settings with powerLow := false } } :=
      .calm (.power .active false (by simp) (by simp [h]) nofun nofun id) (anyEligible_power _ (by simp [h])) rfl
    exact active.chain.tail (.still (.quiet rfl))
  next => exact Still.acts (powerResult_still ..)

theorem takeConfirm_acts {s : State} (hp : s.pins.pon = false) : Acts s s.takeConfirm := by
  unfold State.takeConfirm
  split
  next h =>
    split
    next hd =>
      have asleep : Change False s { s with power := { s.power with state := .dormant } } :=
        .power .dormant s.settings.powerLow (by simp [h]) (by simp [h]) (fun _ => .inr ⟨.inl h, rfl⟩) (fun _ => .inr hd) id
      exact Changes.polled (asleep.chain.tail (.still (.quiet rfl))) hp
    next => exact Still.acts (powerResult_still ..)
  next => exact Still.acts (powerResult_still ..)

theorem takeWake_acts (s : State) : Acts s s.takeWake := by
  unfold State.takeWake
  split
  · exact (wakeBy_acts ..).tail (.still (powerResult_still ..))
  · exact Still.acts (powerResult_still ..)

end Sys2Proof.Machine

/-! SUPPORT. The host accesses and the stream commands as chains of events. -/

namespace Sys2Proof.Machine

/-! #### Host accesses (R15 to R23, R109, R119) -/

/-- An admitted access names an OPEN entry. -/
theorem isOpen_of_classify {s : State} {a : HostAddr} {d : Direction} {e : EntryIdx} {ap : Aperture}
    (h : s.classify a d = .admitted e ap) : s.serving = true ∧ s.isOpen e = true := by
  unfold State.classify at h
  split at h
  · cases h
  next hs =>
    split at h
    · cases h
    next e' l hc =>
      split at h
      · cases h
      next hp =>
        split at h <;> cases h
        refine ⟨by simpa using hs, ?_⟩
        obtain ⟨f, _, hf⟩ := List.exists_of_findSome?_eq_some hc
        split at hf
        next l' hl' =>
          split at hf <;> cases hf
          simpa [State.isOpen, hl'] using hp
        next => cases hf

theorem settleAccess_acts (a : HostAddr) (d : Direction) (c : AccessClass) (s : State) :
    Acts s (s.settleAccess a d c) := by
  unfold State.settleAccess
  split
  · exact offerAccess_acts s
  · exact (fault_stills ..).acts
  · exact (countRefused_stills ..).acts
  · exact (fault_stills ..).acts
  · rfl

theorem not_held_iff (s : State) :
    s.hostHeld = false ↔ s.pwq.held = .none ∧ s.slot.record = none ∧ s.inb.held = none ∧ s.outb.held = none := by
  simp [State.hostHeld, and_assoc]

theorem place_frame {w : HostWrite} {s t : State} (h : s.place w = some t) :
    { t with table := s.table, pwq := s.pwq, lineset := s.lineset } = s := by
  rcases place_cases w s with ⟨rs, _, eq⟩ | ⟨_, _, eq⟩ | ⟨_, _, eq⟩ <;> rw [eq] at h <;> cases h <;>
    exact congrArg (fun u : State => { u with table := s.table, pwq := s.pwq, lineset := s.lineset })
      (slideAt_frame ..)

theorem flagRefused_still (s : State) : Still s s.flagRefused := .quiet rfl

theorem answerHit_stills {r : ReadRecord} {d : Word} {s : State} (hh : s.hostHeld = false) :
    Stills s ((s.reply (.read (r.lanes.answer d))).slideAt r.entry r.word) :=
  (Still.reply (.read (r.lanes.answer d)) nofun (.inl hh)).chain.trans (slideAt_stills ..)

section
variable {s : State} (hp : s.pins.pon = false) (hh : s.hostHeld = false)
include hp hh

theorem offerWrite_changes {w : HostWrite} (ha : s.power.state = .active) (ho : s.isOpen w.entry = true) :
    Changes False s (s.offerWrite w) := by
  have idle := (not_held_iff s).1 hh
  have placed {t : State} (ht : s.place w = some t) : Changes False s t :=
    place_changes ht ho (fun _ => idle.2.1) (by simp [ha])
  rcases offerWrite_cases w s with ⟨t, ht, _, eq⟩ | ⟨t, ht, _, eq⟩ | ⟨_, eq⟩ <;> rw [eq]
  · exact placed ht
  · have frame := place_frame ht
    have power : t.power = s.power := (congrArg State.power frame :)
    have pins : t.pins = s.pins := (congrArg State.pins frame :)
    have slot : t.slot = s.slot := (congrArg State.slot frame :)
    have inb : t.inb = s.inb := (congrArg State.inb frame :)
    have outb : t.outb = s.outb := (congrArg State.outb frame :)
    have free : t.hostHeld = false := (not_held_iff t).2 (by simpa [place_held ht, slot, inb, outb] using idle)
    exact (placed ht).tail (.still (.holdWrite _ free (by simp [power, pins, ha, hp]) nofun))
  · exact Change.chain (.still (.holdWrite _ hh ⟨ha, hp⟩ nofun))

theorem apertureWrite_acts (ha : BitVec 23) (st : Strobes) (hd : Half) : Acts s (s.apertureWrite ha st hd) := by
  unfold State.apertureWrite
  split
  · split
    next e ap hc =>
      obtain ⟨hs, ho⟩ := isOpen_of_classify hc
      exact (offerWrite_changes hp hh ((serving_iff s).1 hs).1 ho).polled hp
    next => exact settleAccess_acts ..
  · rfl

theorem offerRead_changes {r : ReadRecord} (ha : s.power.state = .active) (hr : r.phase = .orderWait) :
    Changes False s (s.offerRead r) := by
  unfold State.offerRead
  split
  next d _ => exact (answerHit_stills (r := r) (d := d) hh).changes
  next => exact (Still.holdRead r hh ⟨ha, hp⟩ hr).changes.trans (testOrder_changes _)

theorem apertureRead_acts (ha : BitVec 23) (st : Strobes) : Acts s (s.apertureRead ha st) := by
  have filler : Act s (s.reply fillerReply) := .still (.reply _ nofun (.inl hh))
  unfold State.apertureRead
  split
  · split
    next e ap hc =>
      obtain ⟨hs, _⟩ := isOpen_of_classify hc
      exact (offerRead_changes hp hh ((serving_iff s).1 hs).1 rfl).polled hp
    next => exact filler.chain.trans (settleAccess_acts ..)
  · exact filler.chain

theorem acceptBytes_changes {bytes : List Byte} (ha : s.power.state = .active) (hs : s.inb.state = .running) :
    Changes False s (s.acceptBytes bytes) := by
  unfold State.acceptBytes
  simp only
  generalize hu : (if (bytes.take (Config.maxMessage - s.inb.msgLen)).length < bytes.length then s.damage else s) = u
  have damaged : Still s u ∧ u.hostHeld = false ∧ u.power = s.power ∧ u.pins = s.pins ∧ u.inb.state = s.inb.state := by
    rw [← hu]
    split
    · exact ⟨.quiet rfl, hh, rfl, rfl, rfl⟩
    · exact ⟨.quiet rfl, hh, rfl, rfl, rfl⟩
  obtain ⟨still, free, power, pins, state⟩ := damaged
  refine still.changes.trans ?_
  split
  next hb => exact Change.chain (.entered _ _ _ hb (by simp [power, ha]))
  next =>
    split
    · exact Still.changes (.quiet rfl)
    · exact Still.changes (.holdIn _ free (by simp [power, pins, ha, hp]) (state.trans hs))

theorem streamWrite_acts (st : Strobes) (hd : Half) : Acts s (s.streamWrite st hd) := by
  unfold State.streamWrite
  split
  · split
    next h =>
      simp only [Bool.and_eq_true, decide_eq_true_eq] at h
      exact (acceptBytes_changes hp hh ((serving_iff s).1 h.1).1 h.2).polled hp
    next => exact (flagRefused_still s).acts.trans (offerAccess_acts _)
  · rfl

theorem serveRead_changes (st : Strobes) (ha : s.power.state = .active) (hs : s.outb.state = .running) :
    Changes False s (s.serveRead st) := by
  unfold State.serveRead
  simp only
  split
  · exact Stills.changes ((Still.reply fillerReply nofun (.inl hh)).chain.tail (.quiet rfl))
  · split
    next =>
      exact (Still.reply (s.outb.readReply st (streamTake st s.outb.available)) nofun (.inl hh)).changes.tail
        (.outbound (s.outb.taken (streamTake st s.outb.available)) (.inr le_rfl) rfl (fun _ h => .inl h))
    next => exact Still.changes (.holdOut st hh ⟨ha, hp⟩ hs)

theorem streamRead_acts (st : Strobes) : Acts s (s.streamRead st) := by
  have filler : Act s (s.reply fillerReply) := .still (.reply _ nofun (.inl hh))
  unfold State.streamRead
  split
  · split
    next h =>
      simp only [Bool.and_eq_true, decide_eq_true_eq] at h
      exact (serveRead_changes hp hh st ((serving_iff s).1 h.1).1 h.2).polled hp
    next => exact (filler.chain.tail (.still (flagRefused_still _))).trans (offerAccess_acts _)
  · exact filler.chain

end

/-! #### The stream commands (R103 to R121) -/

theorem ringSize_pos (z : BitVec 4) : 0 < ringSize z := Nat.mul_pos (by decide) (Nat.pow_pos (by decide))

/-- The distance of two indices in range, without the modulus. -/
theorem ringDist_eq {size a b : Nat} (ha : a < 2 * size) (hb : b < 2 * size) :
    ringDist size a b = if a ≤ b then b - a else b + 2 * size - a := by
  unfold ringDist
  rw [Nat.mod_eq_of_lt ha]
  split
  · rw [show b + (2 * size - a) = b - a + 2 * size by omega, Nat.add_mod_right, Nat.mod_eq_of_lt (by omega)]
  · rw [Nat.mod_eq_of_lt (by omega)]
    omega

/-- An index moved forward within a distance shortens it. -/
theorem ringDist_le_of_between {size a b v : Nat} (ha : a < 2 * size) (hb : b < 2 * size) (hv : v < 2 * size)
    (h : ringDist size a v ≤ ringDist size a b) : ringDist size v b ≤ ringDist size a b := by
  rw [ringDist_eq ha hv, ringDist_eq ha hb] at h
  rw [ringDist_eq hv hb, ringDist_eq ha hb]
  split_ifs at h ⊢ <;> omega

/-- IN_CONSUME moved within the occupied part makes room (R105). -/
theorem inboundLaw_consume {s : State} {v : Nat} (h : s.inb.consumeOk v = true) :
    s.inboundLaw → (s.setInb { s.inb with consume := v }).inboundLaw := by
  simp only [Inbound.consumeOk, Bool.and_eq_true, decide_eq_true_eq] at h
  obtain ⟨hv, hd⟩ := h
  rintro ⟨h1, h2, h3, h4⟩
  have less : ringDist (ringSize s.inb.size) v s.inb.produce ≤ s.inb.occupancy := ringDist_le_of_between h2 h1 hv hd
  refine ⟨h1, hv, less.trans h3, fun x hx hc hx' => ?_⟩
  obtain ⟨hs, hn, hl, hf⟩ := h4 x hx hc hx'
  exact ⟨hs, hn, hl, hf.trans (Nat.sub_le_sub_left less _)⟩

/-- A ring set anew while the channel is OFF is empty (R103). -/
theorem inboundLaw_of_off {s : State} {c : Inbound} (hs : s.inb.state = .off) (hp : c.produce = 0) (hc : c.consume = 0) :
    s.inboundLaw → (s.setInb c).inboundLaw := by
  rintro ⟨_, _, _, h4⟩
  have pos := ringSize_pos c.size
  refine ⟨?_, ?_, ?_, fun x hx hcl hd => ?_⟩
  · simpa [hp] using pos
  · simpa [hc] using pos
  · simp [Inbound.occupancy, hp, hc, ringDist]
  · obtain ⟨hst, _⟩ := h4 x hx hcl hd
    simp [hs] at hst

theorem eligible_inbound_of_off {s t : State} (hs : s.inb.state = .off) (ht : t.inb.state = .off) :
    t.eligible .inbound = s.eligible .inbound := by
  simp [State.eligible, Inbound.moveReady, hs, ht]

theorem eligible_outbound_of_off {s t : State} (hs : s.outb.state = .off) (ht : t.outb.state = .off) :
    t.eligible .outbound = s.eligible .outbound := by
  simp [State.eligible, Outbound.fetchReady, hs, ht]

theorem anyEligible_setInb {s : State} {c : Inbound} (h : (s.setInb c).eligible .inbound = s.eligible .inbound) :
    (s.setInb c).anyEligible = s.anyEligible := by
  simp only [State.anyEligible, State.streamEligible, h]
  rfl

theorem anyEligible_setOutb {s : State} {c : Outbound} (h : (s.setOutb c).eligible .outbound = s.eligible .outbound) :
    (s.setOutb c).anyEligible = s.anyEligible := by
  simp only [State.anyEligible, State.streamEligible, h]
  rfl

theorem writeInBase_acts (d : Word) (s : State) : Acts s (s.writeInBase d) := by
  unfold State.writeInBase
  split
  next h =>
    exact Act.chain (.calm (.inbound _ (.inl (Nat.zero_le _)) le_rfl rfl (fun _ h => .inl h) (inboundLaw_of_off h rfl rfl))
      (anyEligible_setInb (eligible_inbound_of_off (t := s.setInb _) h h)) rfl)
  next => rfl

theorem writeInConfig_acts (d : Word) (s : State) : Acts s (s.writeInConfig d) := by
  unfold State.writeInConfig
  simp only
  have sized : Acts s (if s.inb.state = .off then
      s.setInb { s.inb with size := d.extractLsb' 0 4, produce := 0, consume := 0, boundaries := [] } else s) := by
    split
    next h =>
      exact Act.chain (.calm (.inbound _ (.inl (Nat.zero_le _)) le_rfl rfl (fun _ h => .inl h)
        (inboundLaw_of_off h rfl rfl)) (anyEligible_setInb (eligible_inbound_of_off (t := s.setInb _) h h)) rfl)
    next => rfl
  have stored := sized.tail (.still (.quiet (t := State.setInb { (ite (s.inb.state = .off)
      (s.setInb { s.inb with size := d.extractLsb' 0 4, produce := 0, consume := 0, boundaries := [] }) s).inb with
        drop := d.getLsbD 8, hold := d.extractLsb' 16 4 } _) rfl))
  split
  · exact stored.trans (unlessResetting_stills dropHeldStream_stills _).acts
  · exact stored

theorem writeOutBase_acts (d : Word) (s : State) : Acts s (s.writeOutBase d) := by
  unfold State.writeOutBase
  split
  next h =>
    exact Act.chain (.calm (.outbound _ (.inl (Nat.zero_le _)) rfl (fun _ h => .inl h))
      (anyEligible_setOutb (eligible_outbound_of_off (t := s.setOutb _) h h)) rfl)
  next => rfl

theorem writeOutConfig_acts (d : Word) (s : State) : Acts s (s.writeOutConfig d) := by
  unfold State.writeOutConfig
  simp only
  split
  next h =>
    have sized : Act s (s.setOutb
        { s.outb with size := d.extractLsb' 0 4, produce := 0, fetch := 0, consume := 0, marks := [] }) :=
      .calm (.outbound _ (.inl (Nat.zero_le _)) rfl (fun _ h => .inl h))
        (anyEligible_setOutb (eligible_outbound_of_off (t := s.setOutb _) h h)) rfl
    exact sized.chain.tail (.still (.quiet rfl))
  next => exact Still.acts (.quiet rfl)

theorem writeRing_acts (r : RingReg) (d : Word) (s : State) : Acts s (s.writeRing r d) := by
  cases r
  · exact writeInBase_acts d s
  · exact writeInConfig_acts d s
  · exact writeOutBase_acts d s
  · exact writeOutConfig_acts d s

theorem localStreamResult_still (r : Result) (s : State) : Still s (s.localStreamResult r) := .quiet rfl

theorem flagIndexRefused_still (s : State) : Still s s.flagIndexRefused := .quiet rfl

/-- A visible head popped leaves what makes a move due (R111, R115). -/
theorem takeInPop_acts (s : State) : Acts s s.takeInPop := by
  unfold State.takeInPop
  simp only
  refine Relation.ReflTransGen.tail ?_ (.still (localStreamResult_still ..))
  split
  next h =>
    have popped : (s.setInb { s.inb with boundaries := s.inb.boundaries.tail }).eligible .inbound = s.eligible .inbound := by
      unfold State.inPopResult at h
      split at h
      · cases h
      next b rest hb =>
        split at h
        next hv =>
          simp [State.eligible, State.setInb, Inbound.moveReady, Inbound.ringFree, Inbound.occupancy, hb, hv]
          rfl
        next => cases h
    exact Act.chain (.calm (.inbound _ (.inr (by simp)) le_rfl rfl (fun _ h => .inl h)
      id) (anyEligible_setInb popped) rfl)
  next => rfl

theorem skipMessage_changes (s : State) : Changes False s s.skipMessage := by
  unfold State.skipMessage
  split
  next m rest hm =>
    have removed : Changes False s (s.setOutb { s.outb with marks := rest }) :=
      Change.chain (.outbound _ (.inr (by simp [hm])) rfl (fun _ h => .inl h))
    simp only
    split
    · exact removed
    · exact (removed.tail (.outbound { s.outb with marks := rest, fifo := [], fetch := m, consume := m } (.inr le_rfl) rfl
        (fun _ h => .inl h))).trans (voidFetch_changes _)
  next => rfl


section
variable {s : State} (hp : s.pins.pon = false)
include hp

theorem takeEnd_acts : Acts s s.takeEnd := by
  unfold State.takeEnd
  simp only
  split
  next h =>
    have room : s.inb.boundaries.length < 8 := by
      unfold State.endResult at h
      split_ifs at h with _ _ _ hl
      simpa using hl
    have ended : Changes False s (s.setInb s.inb.ended) :=
      Change.chain (.inbound _ (.inl (by simpa [Inbound.ended] using room)) le_rfl rfl (fun _ h => .inl h) id)
    exact Changes.polled (ended.tail (.still (.quiet rfl))) hp
  next => exact Still.acts (.quiet rfl)

theorem takeNext_acts : Acts s s.takeNext := by
  unfold State.takeNext
  split
  · exact Still.acts (.quiet rfl)
  · split
    · exact Still.acts (.quiet rfl)
    · exact Changes.polled ((skipMessage_changes s).tail (.still (.quiet rfl))) hp

theorem writeInConsume_acts (d : Word) : Acts s (s.writeInConsume d) := by
  unfold State.writeInConsume
  split
  next h =>
    simp only [Bool.and_eq_true] at h
    exact Changes.polled (.single (.inbound _ (.inr le_rfl) le_rfl rfl (fun _ h => .inl h) (inboundLaw_consume h.2))) hp
  next => exact (flagIndexRefused_still s).acts

theorem writeOutProduce_acts (d : Word) : Acts s (s.writeOutProduce d) := by
  unfold State.writeOutProduce
  split
  next h =>
    have stored : Changes False s (s.setOutb { s.outb with produce := d.toNat }) :=
      .single (.outbound _ (.inr le_rfl) rfl (fun _ h => .inl h))
    exact Changes.polled (stored.trans (judgeRead_changes _)) hp
  next => exact (flagIndexRefused_still s).acts

/-- A local stream command that is done answers OK and ends with the tests of the bus. -/
theorem streamDone_acts {t : State} (h : Changes False s t) : Acts s (t.localStreamResult .ok).poll :=
  Changes.polled (h.tail (.still (localStreamResult_still ..))) hp

theorem startIn_acts : Acts s ((s.setInb { s.inb with state := .running }).localStreamResult .ok).poll :=
  streamDone_acts hp (.single (.inbound _ (.inr le_rfl) le_rfl rfl (fun _ _ => .inl rfl)
    (inboundLaw_of_same_ring ⟨rfl, rfl, rfl⟩ (.inl ⟨rfl, .inl rfl⟩))))

theorem startOut_acts : Acts s ((s.setOutb { s.outb with state := .running }).localStreamResult .ok).poll :=
  streamDone_acts hp (.single (.outbound _ (.inr le_rfl) rfl (fun _ _ => .inl rfl)))

theorem takeInStart_acts : Acts s s.takeInStart := by
  unfold State.takeInStart
  simp only
  split
  · exact startIn_acts hp
  · exact (localStreamResult_still ..).acts

theorem takeInStop_acts : Acts s s.takeInStop := by
  unfold State.takeInStop
  split
  · exact streamDone_acts hp (stopIn_changes s)
  · exact streamDone_acts hp (stopIn_changes s)
  · exact (localStreamResult_still ..).acts
  · exact (localStreamResult_still ..).acts

theorem takeInRestart_acts : Acts s s.takeInRestart := by
  unfold State.takeInRestart
  split
  · exact startIn_acts hp
  · exact (localStreamResult_still ..).acts

theorem takeOutStart_acts : Acts s s.takeOutStart := by
  unfold State.takeOutStart
  simp only
  split
  · exact startOut_acts hp
  · exact (localStreamResult_still ..).acts

theorem takeOutStop_acts : Acts s s.takeOutStop := by
  unfold State.takeOutStop
  split
  · exact (localStreamResult_still ..).acts
  · exact streamDone_acts hp (stopOut_changes s)

theorem takeOutRestart_acts : Acts s s.takeOutRestart := by
  unfold State.takeOutRestart
  split
  · exact startOut_acts hp
  · exact (localStreamResult_still ..).acts

omit hp in
theorem takeMark_changes {p : Nat} (h : s.outb.markResult p = .ok) : Changes False s (s.takeMark p) := by
  have room : s.outb.marks.length < 8 := by
    unfold Outbound.markResult at h
    simp only at h
    split_ifs at h with hl
    simpa using hl
  unfold State.takeMark
  simp only
  generalize hu : (if s.outb.marks = [] then
    ((if s.fetchReaches p then s.voidFetch else s).setOutb ((if s.fetchReaches p then s.voidFetch else s).outb.cutBack p))
    else s) = u
  have cut : Changes False s u ∧ u.outb.marks.length < 8 := by
    rw [← hu]
    split
    · constructor
      · refine Relation.ReflTransGen.tail (b := if s.fetchReaches p then s.voidFetch else s) ?_
          (.outbound _ (.inr le_rfl) rfl (fun _ h => .inl h))
        split
        · exact voidFetch_changes s
        · rfl
      · split <;> simpa [Outbound.cutBack, voidFetch_eq] using room
    · exact ⟨.refl, room⟩
  obtain ⟨changes, length⟩ := cut
  have marked : Change False u (u.setOutb { u.outb with marks := u.outb.marks ++ [p] }) :=
    .outbound _ (.inl (by simpa using length)) rfl (fun _ h => .inl h)
  exact (changes.tail marked).trans (judgeRead_changes _)

theorem takeOutMark_acts (p : BitVec 17) : Acts s (s.takeOutMark p) := by
  unfold State.takeOutMark
  simp only
  split
  next h => exact streamDone_acts hp (takeMark_changes h)
  next => exact (localStreamResult_still ..).acts

end

theorem streamCommand_acts {s : State} {f : State → State} (h : Acts s (f s)) : Acts s (s.streamCommand f) := by
  unfold State.streamCommand
  split
  · exact (localStreamResult_still ..).acts
  · exact h

end Sys2Proof.Machine

/-! SUPPORT. Expiries, the ends of transfers, the resets and the register windows as chains of events; every step is one. -/

namespace Sys2Proof.Machine

/-! #### Expiries (R41, R56, R58, R86, R111, R139) -/

/-- The record a host waits on, its place in the queue, and the queue without it (R41). -/
theorem withdraw_eq {s : State} {q : BitVec 8} {r : WriteRecord} (h : s.pwq.waited q = some r) :
    ∃ older newer, s.pwq.records = older ++ r :: newer ∧ s.withdraw q = s.setRecords (older ++ newer) := by
  obtain ⟨hr, newer, older, hl, hn⟩ := List.find?_eq_some_iff_append.1 h
  refine ⟨older.reverse, newer.reverse, ?_, ?_⟩
  · simpa using congrArg List.reverse hl
  · have kept : ∀ b ∈ newer, ¬ decide (b.seq = q) = true := fun b hb => by simpa using hn b hb
    unfold State.withdraw State.setRecords
    rw [hl, List.eraseP_append_right _ kept, List.eraseP_cons_of_pos (by exact hr)]
    simp

theorem untimed_still (s : State) : Still s (s.releaseHost s.hostReply) := .untimed

theorem stallWrite_changes (s : State) : Changes False s s.stallWrite := by
  unfold State.stallWrite
  split
  next w hw =>
    have freed : Still s ((s.setHeld .none).releaseHost .written) := .freeWrite .written nofun (by simp [hw])
    exact Stills.changes (freed.chain.trans (fault_stills ..))
  next q hq =>
    have freed : Still s ((s.setHeld .none).releaseHost .written) := .freeWrite .written nofun (by simp [hq])
    simp only
    split
    next r hr =>
      split
      · exact Stills.changes (freed.chain.trans (fault_stills ..))
      next hf =>
        obtain ⟨older, newer, records, withdrawn⟩ := withdraw_eq (s := (s.setHeld .none).releaseHost .written) hr
        rw [withdrawn]
        exact freed.changes.trans
          ((leave_changes records (by simpa using hf)).trans (fault_stills ..).changes)
    next => exact freed.changes
  next => exact (untimed_still s).changes

theorem stallRead_changes (s : State) : Changes False s s.stallRead := by
  unfold State.stallRead
  split
  next r hr =>
    simp only
    split
    next hf =>
      exact (Change.chain (.orphaned r _ fillerReply nofun hr hf)).trans (fault_stills ..).changes
    next hf =>
      exact (Change.chain (.readEnded r fillerReply nofun hr hf)).trans (fault_stills ..).changes
  next => exact (untimed_still s).changes

theorem stallStreamIn_stills (s : State) : Stills s s.stallStreamIn := by
  unfold State.stallStreamIn
  split
  next b hb =>
    have freed : Still s ((s.setInb { s.inb with held := none }).releaseHost .written) :=
      .freeIn .written nofun (by simp [hb])
    have damaged : Still ((s.setInb { s.inb with held := none }).releaseHost .written)
        ((s.setInb { s.inb with held := none, damaged := true }).releaseHost .written) := .quiet rfl
    exact (freed.chain.tail damaged).trans (fault_stills ..)
  next => exact (untimed_still s).chain

theorem stallStreamOut_stills (s : State) : Stills s s.stallStreamOut := by
  unfold State.stallStreamOut
  split
  next st hst =>
    have freed : Still s ((s.setOutb { s.outb with held := none }).releaseHost fillerReply) :=
      .freeOut fillerReply nofun (by simp [hst])
    exact freed.chain.trans (fault_stills ..)
  next => exact (untimed_still s).chain

theorem later_changes (n : Nat) (s : State) : Changes False s { s with now := n } := Change.chain (.later n id)

section
variable {s : State} (hp : s.pins.pon = false)
include hp

theorem expireStall_acts : Acts s s.expireStall := by
  unfold State.expireStall
  split
  next t _ =>
    simp only
    refine Changes.polled ((later_changes (max s.now (t.timer.start + t.timer.limit)) s).trans ?_) hp
    split
    · exact stallWrite_changes _
    · exact stallRead_changes _
    · exact (stallStreamIn_stills _).changes
    · exact (stallStreamOut_stills _).changes
  next => rfl

theorem expireLinger_acts : Acts s s.expireLinger := by
  unfold State.expireLinger
  split
  next t _ =>
    have passed (u : State) (hu : u.inb = s.inb) : Change False u (u.setInb { s.inb with linger := .passed }) := by
      rw [← hu]
      exact .inbound _ (.inr le_rfl) le_rfl rfl (fun _ h => .inl h) id
    exact Changes.polled ((later_changes _ s).tail (passed _ rfl)) hp
  next => rfl

theorem expireLine_acts (i : LineIdx) : Acts s (s.expireLine i) := by
  unfold State.expireLine
  split
  · split
    · rfl
    · exact Changes.polled ((later_changes _ s).tail (.still (setLine_still (.inl rfl)))) hp
  · rfl

theorem expireProposal_acts (n : NegSetting) : Acts s (s.expireProposal n) := by
  unfold State.expireProposal
  split
  · split
    · exact Changes.polled ((later_changes _ s).tail (.still (.unproposed n .expired 0#4 nofun))) hp
    · rfl
  · rfl

theorem beginRequest_acts : Acts s s.beginRequest := by
  unfold State.beginRequest
  split
  · split
    · exact (later_changes _ s).polled hp
    · exact Changes.polled .refl hp
  · rfl

/-! #### The end of a transfer (R65 to R67, R172) -/

theorem endTransfer_acts {x y : Transfer} {deliver : State → State} (hx : s.master.transfer = some x)
    (hd : Delivered x s.withoutTransfer (if y.discard then s.withoutTransfer else deliver s.withoutTransfer)) :
    Acts s (s.endTransfer y deliver) := by
  unfold State.endTransfer
  exact Act.chain (.ended x _ hp hx hd)

theorem takeLack_acts (ld : Word) : Acts s (s.takeLack ld) := by
  unfold State.takeLack
  split
  next x hx =>
    simp only
    split
    next hl => exact Act.chain (.beat x ld hp hx hl)
    next =>
      refine endTransfer_acts hp hx ?_
      cases hd : x.discard with
      | true => simpa [Transfer.acked, hd] using Delivered.discarded hd
      | false => simpa [Transfer.acked, hd] using Delivered.done hd (x.acked ld s.beatTimer) ⟨rfl, rfl⟩
  next => rfl

theorem failBeat_acts (k : FaultKind) : Acts s (s.failBeat k) := by
  unfold State.failBeat
  split
  next x hx =>
    refine endTransfer_acts hp hx ?_
    cases hd : x.discard with
    | true => simpa using Delivered.discarded hd
    | false => simpa using Delivered.failed hd k
  next => rfl

theorem expireBeat_acts : Acts s s.expireBeat := by
  unfold State.expireBeat
  split
  next x hx =>
    have late : Act s (s.reach x.beatTimer) := .late _ (by simp [hx])
    exact late.chain.trans (failBeat_acts (s := s.reach x.beatTimer) hp _)
  next => rfl

theorem takeDatapathReset_acts : Acts s s.takeDatapathReset := by
  unfold State.takeDatapathReset
  split
  · exact Still.acts (.quiet rfl)
  · split
    next hx => exact (Act.carriedOut hp hx).chain.tail (.still (.quiet rfl))
    next x hx =>
      have marked := Act.discarded x hp hx
      have discarded : Acts s ({ s with power := { s.power with resetBusy := true } } : State).discardTransfer := by
        simpa [State.discardTransfer, hx] using marked.chain
      exact discarded.tail (.still (.quiet rfl))

theorem writeModuleReset_acts (hh : s.hostHeld = false) (v : Bool) : Acts s (s.writeModuleReset v) := by
  unfold State.writeModuleReset
  split
  · split
    · rfl
    · exact Act.chain (.moduleReset hp hh)
  · exact Still.unreset.acts.tail (.still (.quiet rfl))

end

/-! #### The attention line and the time -/

theorem raiseAttention_acts (s : State) : Acts s s.raiseAttention := by
  unfold State.raiseAttention
  split
  · rfl
  · have latched : Act s ({ s with pins := { s.pins with latn := true } } : State).latchAttention := .still (.quiet rfl)
    have routed : Acts s
        (if s.settings.s4.accepted = Config.routeForward then
          ({ s with pins := { s.pins with latn := true } } : State).latchAttention.latchHostAttention
        else ({ s with pins := { s.pins with latn := true } } : State).latchAttention) := by
      split
      · exact latched.chain.tail (.still (.quiet rfl))
      · exact latched.chain
    simp only
    split
    · exact routed.trans (wakeBy_acts ..)
    · exact routed

theorem tick_acts (s : State) : Acts s s.tick := by
  unfold State.tick
  simp only
  cases hp : s.pins.pon with
  | true => exact Act.chain (.idle _ hp)
  | false => exact (later_changes _ s).polled hp

/-! #### Register windows (R175 to R180) -/

theorem clampTo_range (lo hi v : BitVec 6) (h : lo.toNat ≤ hi.toNat) :
    lo.toNat ≤ (clampTo lo hi v).toNat ∧ (clampTo lo hi v).toNat ≤ hi.toNat := by
  unfold clampTo
  simp only [BitVec.lt_def]
  split_ifs <;> omega

theorem writeInThreshold_still (v : BitVec 6) (s : State) : Still s (s.writeInThreshold v) :=
  .inThreshold _ (clampTo_range 2#6 32#6 v (by decide))

theorem writeOutThreshold_still (v : BitVec 6) (s : State) : Still s (s.writeOutThreshold v) :=
  .outThreshold _ (clampTo_range 1#6 32#6 v (by decide))

theorem writeAckLimit_stills (v : BitVec 8) (s : State) : Stills s (s.writeAckLimit v) := by
  unfold State.writeAckLimit
  split
  · rfl
  next h => exact Still.chain (.ackLimit v h)

theorem selectView_still (w : Window) (e : EntryIdx) (s : State) : Still s (s.selectView w e) := by
  cases w <;> exact .quiet rfl

theorem tableCode_stills (w : Window) (c : BitVec 4) (s : State) : Stills s (s.tableCode w c) := by
  unfold State.tableCode
  split
  · rfl
  · exact tableCommand_stills ..
  · exact tableCommand_stills ..
  · exact tableCommand_stills ..
  · exact tableCommand_stills ..
  · exact tableCommand_stills ..
  · exact (tableResult_still ..).chain

theorem clearLost_still (s : State) : Still s s.clearLost := .quiet rfl

theorem faultCode_stills (w : Window) (c : BitVec 4) (s : State) : Stills s (s.faultCode w c) := by
  unfold State.faultCode
  split
  · rfl
  · exact popFault_stills ..
  · exact (clearLost_still s).chain
  · exact (popResult_still ..).chain

theorem noteCode_stills (c : BitVec 4) (s : State) : Stills s (s.noteCode c) := by
  unfold State.noteCode
  split
  · rfl
  · exact popNote_stills s
  · exact Still.chain (.quiet rfl)

theorem hostRegister_acts {s : State} (hp : s.pins.pon = false) (hh : s.hostHeld = false) (reg : BitVec 6) (hd : Half) :
    Acts s (s.hostRegister reg hd) := by
  unfold State.hostRegister
  split
  · exact writeModuleReset_acts hp hh _
  · exact writePowerRequest_acts _ hh
  · exact Still.acts (.quiet rfl)
  · exact Still.acts (.quiet rfl)
  · exact (writeNegotiated_still ..).acts
  · exact (writeNegotiated_still ..).acts
  · exact (writeNegotiated_still ..).acts
  · exact (writeNegotiated_still ..).acts
  · exact Still.acts (.quiet rfl)
  · exact (faultCode_stills ..).acts
  · exact (noteCode_stills ..).acts
  · exact Still.acts (.quiet rfl)
  · exact Still.acts (.quiet rfl)
  · exact Still.acts (.quiet rfl)
  · exact Still.acts (.quiet rfl)
  · exact (tableCode_stills ..).acts
  · exact (selectView_still ..).acts
  · exact Still.acts (.quiet rfl)
  · exact (writeInThreshold_still ..).acts
  · exact (writeOutThreshold_still ..).acts
  · unfold State.hostStreamCode
    split
    · rfl
    · exact takeEnd_acts hp
    · exact takeNext_acts hp
    · exact Still.acts (.quiet rfl)
  · rfl

theorem hostWindowWrite_acts {s : State} (hp : s.pins.pon = false) (hh : s.hostHeld = false) (reg : BitVec 6)
    (st : Strobes) (hd : Half) : Acts s (s.hostWindowWrite reg st hd) := by
  unfold State.hostWindowWrite
  split
  · exact streamWrite_acts hp hh st hd
  · split
    · exact hostRegister_acts hp hh reg hd
    · rfl

section
variable {s : State} (hp : s.pins.pon = false)
include hp

theorem answerCode_acts (c : BitVec 4) (i : BitVec 3) (reason : BitVec 4) (serial : BitVec 8) :
    Acts s (s.answerCode c i reason serial) := by
  unfold State.answerCode
  split
  · rfl
  · exact answerAccept_acts i serial reason hp
  · exact (answerReject_stills ..).acts
  · exact Still.acts (.quiet rfl)

theorem powerCode_acts (hm : s.settings.moduleReset = false) (c : BitVec 4) (a b : Bool) :
    Acts s (s.powerCode c a b) := by
  unfold State.powerCode
  refine (storeWake_still a b s).acts.trans ?_
  simp only
  split
  · rfl
  · exact takeReady_acts hp hm
  · exact takeRemain_acts _
  · exact takeConfirm_acts hp
  · exact takeWake_acts _
  · exact (powerResult_still ..).acts

theorem resetCode_acts (c : BitVec 4) : Acts s (s.resetCode c) := by
  unfold State.resetCode
  split
  · rfl
  · exact takeDatapathReset_acts hp
  · exact Still.acts (.quiet rfl)

theorem localStreamCode_acts (c : BitVec 4) (p : BitVec 17) : Acts s (s.localStreamCode c p) := by
  unfold State.localStreamCode
  split
  · rfl
  · exact streamCommand_acts (takeInStart_acts hp)
  · exact streamCommand_acts (takeInStop_acts hp)
  · exact streamCommand_acts (takeInRestart_acts hp)
  · exact streamCommand_acts (takeInPop_acts s)
  · exact streamCommand_acts (takeOutStart_acts hp)
  · exact streamCommand_acts (takeOutStop_acts hp)
  · exact streamCommand_acts (takeOutRestart_acts hp)
  · exact streamCommand_acts (takeOutMark_acts hp p)
  · exact streamCommand_acts (localStreamResult_still ..).acts

theorem bus_acts {t : State} (h : BusMove s t) : Acts s t := Act.chain (.bus hp h)

omit hp in
theorem invalidateCode_stills (c : BitVec 4) : Stills s (s.invalidateCode c) := by
  unfold State.invalidateCode
  split
  · rfl
  · exact takeInvalidate_stills s
  · exact Still.chain (.quiet rfl)

theorem localRegister_acts (hm : s.settings.moduleReset = false) (reg : BitVec 6) (ld : Word) :
    Acts s (s.localRegister reg ld) := by
  unfold State.localRegister
  split
  · exact powerCode_acts hp hm ..
  · exact resetCode_acts hp _
  · exact Still.acts (.quiet rfl)
  · exact answerCode_acts hp ..
  · exact Still.acts (.quiet rfl)
  · exact Still.acts (.quiet rfl)
  · exact Still.acts (.quiet rfl)
  · exact (faultCode_stills ..).acts
  · exact Still.acts (.quiet rfl)
  · exact Still.acts (.quiet rfl)
  · exact (tableCode_stills ..).acts
  · exact (selectView_still ..).acts
  · exact (invalidateCode_stills _).acts
  · exact (writeFreshness_still ..).acts
  · exact (writeAckLimit_stills ..).acts
  · exact bus_acts hp (.patience _)
  · exact bus_acts hp (.honor _)
  · exact writeRing_acts ..
  · exact writeRing_acts ..
  · exact writeRing_acts ..
  · exact writeRing_acts ..
  · exact writeInConsume_acts hp _
  · exact writeOutProduce_acts hp _
  · exact localStreamCode_acts hp ..
  · split
    · exact Still.acts (.quiet rfl)
    · rfl
  · exact (postNote_stills ..).acts
  · split
    · exact Still.acts (.quiet rfl)
    · rfl
  · rfl

theorem localWindowWrite_acts (hm : s.settings.moduleReset = false) (reg : BitVec 6) (lbe : BitVec 4) (ld : Word) :
    Acts s (s.localWindowWrite reg lbe ld) := by
  unfold State.localWindowWrite
  split
  · exact localRegister_acts hp hm reg ld
  · rfl

end

/-! #### When an access is taken, and every command -/

theorem hostWrite_acts {f : State → State} {s : State}
    (h : ∀ u : State, u.pins.pon = false → u.hostHeld = false → Acts u (f u)) : Acts s (hostWrite f s) := by
  rcases hostWrite_cases f s with ⟨eq, hp⟩ | ⟨eq, _⟩ | ⟨eq, hp, hh⟩ <;> rw [eq]
  · exact Still.acts (.reply .written nofun (.inr hp))
  · exact (Still.reply .written nofun (.inl hh)).acts.trans (h _ hp hh)

theorem hostRead_acts {f : State → State} {s : State}
    (h : s.pins.pon = false → s.hostHeld = false → Acts s (f s)) : Acts s (hostRead f s) := by
  unfold hostRead
  split
  next hp => exact Still.acts (.reply fillerReply nofun (.inr hp))
  next hp =>
    split
    · rfl
    next hh => exact h (by simpa using hp) (by simpa using hh)

theorem localWrite_acts {f : State → State} {s : State}
    (h : s.pins.pon = false → s.settings.moduleReset = false → Acts s (f s)) : Acts s (localWrite f s) := by
  unfold localWrite
  split
  next ho =>
    simp only [State.localOpen, Bool.and_eq_true, Bool.not_eq_true'] at ho
    exact h ho.1 ho.2
  next => rfl

theorem unlessPon_acts {f : State → State} {s : State} (h : s.pins.pon = false → Acts s (f s)) :
    Acts s (unlessPon f s) := by
  unfold unlessPon
  split
  · rfl
  next hp => exact h (by simpa using hp)

/-- A change of a line of the bus: its level alone while PON is asserted, else a move of the bus. -/
theorem lineChange_acts {s t : State} {p : Pins} (h : s.pins.pon = false → BusMove s t) :
    Acts s (if s.pins.pon then { s with pins := p } else t) := by
  split
  next hp => exact Act.chain (.pins p hp)
  next hp => exact bus_acts (by simpa using hp) (h (by simpa using hp))

theorem tableAccess_acts (w : Window) (c : TableCmd) (s : State) : Acts s (tableAccess w c s) := by
  cases w with
  | host => exact hostWrite_acts fun u _ _ => (tableCommand_stills .host c u).acts
  | loc => exact localWrite_acts fun _ _ => (tableCommand_stills .loc c s).acts

theorem powerOnEnd_acts (s : State) : Acts s { s with pins := { s.pins with pon := false } } := by
  cases hp : s.pins.pon with
  | true => exact Act.chain (.pins _ hp)
  | false =>
    rw [← hp]

/-- What a command does is a chain of events. -/
theorem exec_acts {i : Instr} {s t : State} (h : exec i s = .next t) : Acts s t := by
  cases i <;> cases h
  case hostApertureRead ha st => exact hostRead_acts fun hp hh => apertureRead_acts hp hh ha st
  case hostApertureWrite ha st hd => exact hostWrite_acts fun _ hp hh => apertureWrite_acts hp hh ha st hd
  case streamDataWrite st hd => exact hostWrite_acts fun _ hp hh => streamWrite_acts hp hh st hd
  case streamDataRead st => exact hostRead_acts fun hp hh => streamRead_acts hp hh st
  case moduleReset v => exact hostWrite_acts fun _ hp hh => writeModuleReset_acts hp hh v
  case powerRequest low => exact hostWrite_acts fun _ _ hh => writePowerRequest_acts low hh
  case eventEnable v => exact hostWrite_acts fun _ _ _ => Still.acts (.quiet rfl)
  case stallLimit v => exact hostWrite_acts fun _ _ _ => Still.acts (.quiet rfl)
  case negotiatedSettingWrite n v => exact hostWrite_acts fun _ _ _ => (writeNegotiated_still n v _).acts
  case hostEvent d => exact hostWrite_acts fun _ _ _ => Still.acts (.quiet rfl)
  case streamStatus d => exact hostWrite_acts fun _ _ _ => Still.acts (.quiet rfl)
  case endMessage => exact hostWrite_acts fun _ hp _ => takeEnd_acts hp
  case nextMessage => exact hostWrite_acts fun _ hp _ => takeNext_acts hp
  case notePop => exact hostWrite_acts fun u _ _ => (popNote_stills u).acts
  case faultPop w =>
    cases w with
    | host => exact hostWrite_acts fun u _ _ => (popFault_stills .host u).acts
    | loc => exact localWrite_acts fun _ _ => (popFault_stills .loc s).acts
  case clearLost => exact localWrite_acts fun _ _ => (clearLost_still s).acts
  case openEntry w => exact tableAccess_acts w _ s
  case closeEntry w => exact tableAccess_acts w _ s
  case resumeEntry w => exact tableAccess_acts w _ s
  case retarget w => exact tableAccess_acts w _ s
  case setEditable w => exact tableAccess_acts w _ s
  case moduleReady a b =>
    exact localWrite_acts fun hp hm => (storeWake_still a b s).acts.trans (takeReady_acts hp hm)
  case remain a b => exact localWrite_acts fun _ _ => (storeWake_still a b s).acts.trans (takeRemain_acts _)
  case dormantConfirm a b => exact localWrite_acts fun hp _ => (storeWake_still a b s).acts.trans (takeConfirm_acts hp)
  case wake a b => exact localWrite_acts fun _ _ => (storeWake_still a b s).acts.trans (takeWake_acts _)
  case datapathReset => exact localWrite_acts fun hp _ => takeDatapathReset_acts hp
  case notice d => exact localWrite_acts fun _ _ => Still.acts (.quiet rfl)
  case answerAccept i serial reason => exact localWrite_acts fun hp _ => answerAccept_acts i serial reason hp
  case answerReject i serial reason => exact localWrite_acts fun _ _ => (answerReject_stills i serial reason s).acts
  case localEvent d => exact localWrite_acts fun _ _ => Still.acts (.quiet rfl)
  case localMask m => exact localWrite_acts fun _ _ => Still.acts (.quiet rfl)
  case invalidateLines => exact localWrite_acts fun _ _ => (takeInvalidate_stills s).acts
  case freshness v => exact localWrite_acts fun _ _ => (writeFreshness_still v s).acts
  case grantPatience v => exact localWrite_acts fun hp _ => bus_acts hp (.patience v)
  case yieldHonor v => exact localWrite_acts fun hp _ => bus_acts hp (.honor v)
  case ringSettingWrite r d => exact localWrite_acts fun _ _ => writeRing_acts r d s
  case inConsume d => exact localWrite_acts fun hp _ => writeInConsume_acts hp d
  case outProduce d => exact localWrite_acts fun hp _ => writeOutProduce_acts hp d
  case indexRefusedClear => exact localWrite_acts fun _ _ => Still.acts (.quiet rfl)
  case inStart => exact localWrite_acts fun hp _ => streamCommand_acts (takeInStart_acts hp)
  case inStop => exact localWrite_acts fun hp _ => streamCommand_acts (takeInStop_acts hp)
  case inRestart => exact localWrite_acts fun hp _ => streamCommand_acts (takeInRestart_acts hp)
  case inPop => exact localWrite_acts fun _ _ => streamCommand_acts (takeInPop_acts s)
  case outStart => exact localWrite_acts fun hp _ => streamCommand_acts (takeOutStart_acts hp)
  case outStop => exact localWrite_acts fun hp _ => streamCommand_acts (takeOutStop_acts hp)
  case outRestart => exact localWrite_acts fun hp _ => streamCommand_acts (takeOutRestart_acts hp)
  case outMark p => exact localWrite_acts fun hp _ => streamCommand_acts (takeOutMark_acts hp p)
  case notePost c => exact localWrite_acts fun _ _ => (postNote_stills c s).acts
  case noteFullClear => exact localWrite_acts fun _ _ => Still.acts (.quiet rfl)
  case registerWrite a =>
    cases a with
    | host reg st hd => exact hostWrite_acts fun _ hp hh => hostWindowWrite_acts hp hh reg st hd
    | loc reg lbe ld => exact localWrite_acts fun hp hm => localWindowWrite_acts hp hm reg lbe ld
  case powerOnReset => exact Act.chain .powerOn
  case powerOnResetEnd => exact powerOnEnd_acts s
  case lbgntAsserted => exact lineChange_acts fun _ => .grant
  case lbgntWithdrawal => exact lineChange_acts fun _ => .withdrawal
  case lyldAsserted => exact lineChange_acts fun _ => .yield
  case lyldDeasserted => exact lineChange_acts fun _ => .unyield
  case lack ld => exact unlessPon_acts fun hp => takeLack_acts hp ld
  case lerr => exact unlessPon_acts fun hp => failBeat_acts hp _
  case latnAssertion =>
    split
    · exact Still.acts (.quiet rfl)
    · exact raiseAttention_acts s
  case latnDeassertion => split <;> exact Still.acts (.quiet rfl)
  case stallExpiry => exact unlessPon_acts fun hp => expireStall_acts hp
  case ackLimitExpiry => exact unlessPon_acts fun hp => expireBeat_acts hp
  case holdExpiry => exact unlessPon_acts fun hp => bus_acts hp .holdExpired
  case grantPatienceExpiry => exact unlessPon_acts fun hp => bus_acts hp .patienceExpired
  case lingerExpiry => exact unlessPon_acts fun hp => expireLinger_acts hp
  case freshnessExpiry line => exact unlessPon_acts fun hp => expireLine_acts hp line
  case answerExpiry n => exact unlessPon_acts fun hp => expireProposal_acts hp n
  case requestBegin => exact unlessPon_acts fun hp => beginRequest_acts hp

/-- Every step is a chain of events. -/
theorem step_acts {s t : State} (h : step s = .next t) : Acts s t := by
  unfold step at h
  split at h
  next c rest hc => exact (Still.quiet (s := s) (t := { s with pending := rest }) rfl).acts.trans (exec_acts h)
  next =>
    cases h
    exact tick_acts s

/-- What every event keeps, every step keeps. -/
theorem step_keeps {P : State → Prop} (h : ∀ s t, Act s t → P s → P t) {s t : State} (hs : step s = .next t) (hp : P s) :
    P t := by
  have acts := step_acts hs
  clear hs
  induction acts with
  | refl => exact hp
  | tail _ act ih => exact h _ _ act ih

end Sys2Proof.Machine

/-! SUPPORT. What the tests of the bus do, what the changes of the clients leave of it, and what a law asks that looks at
neither. -/

namespace Sys2Proof.Machine

/-! ### Laws that the bus does not touch -/

/-- Two states differ at most in the ownership state and in what moves it: the release mark, YIELD_HONOR,
GRANT_PATIENCE, the levels of LBGNT and LYLD, the time and the local latched events. -/
def Owns (s u : State) : Prop :=
  { u with
    master := { u.master with
      own := s.master.own, releaseMark := s.master.releaseMark, yieldHonor := s.master.yieldHonor
      grantPatience := s.master.grantPatience }
    pins := { u.pins with lbgnt := s.pins.lbgnt, lyld := s.pins.lyld }
    now := s.now
    events := { u.events with loc := s.events.loc } } = s

theorem Owns.refl (s : State) : Owns s s := rfl

theorem Owns.trans {s u v : State} (h : Owns s u) (k : Owns u v) : Owns s v := by
  unfold Owns at *
  rw [← k] at h
  exact h

/-- The arbiter does not look at the ownership state. -/
theorem Owns.choose {s u : State} (h : Owns s u) : u.choose = s.choose := by
  rw [← h]
  rfl

/-- What the tests of the bus and the settling after a transfer do: move the ownership state, and issue the transfer that
the arbiter chooses. -/
inductive Settles (s : State) : State → Prop
  | owns {u : State} (h : Owns s u) : Settles s u
  | issued {u : State} (c : Client) (h : Owns s u) (hc : s.choose = some c) : Settles s (u.issue c)

theorem Owns.settles {s u t : State} (h : Owns s u) (k : Settles u t) : Settles s t := by
  cases k with
  | owns k => exact .owns (h.trans k)
  | issued c k hc => exact .issued c (h.trans k) (h.choose ▸ hc)

theorem takeGrant_settles (s : State) : Settles s s.takeGrant := by
  unfold State.takeGrant
  split
  next c hc => exact .issued c (u := s.setOwn _) rfl hc
  next => exact .owns rfl

theorem enterRequesting_owns (s : State) : Owns s s.enterRequesting := rfl

theorem poll_settles (s : State) : Settles s s.poll := by
  unfold State.poll
  split
  · split
    · split
      · exact (enterRequesting_owns s).settles (takeGrant_settles _)
      · exact .owns rfl
    · exact .owns (.refl s)
  · split
    · split
      · exact takeGrant_settles s
      · exact .owns (.refl s)
    · exact .owns rfl
  · split
    next c hc => exact .issued c (u := s.setOwn _) rfl hc
    next => exact .owns (.refl s)
  · exact .owns (.refl s)
  · exact .owns (.refl s)

theorem settleOwned_settles (n : Nat) (s : State) : Settles s (s.settleOwned n) := by
  unfold State.settleOwned
  split
  · exact .owns rfl
  · split
    next c hc => exact .issued c (.refl s) hc
    next => split <;> exact .owns rfl

theorem settle_settles (n : Nat) (s : State) : Settles s (s.settle n) := by
  unfold State.settle
  split
  · exact settleOwned_settles n s
  · exact .owns rfl
  · split <;> exact .owns rfl
  all_goals exact .owns (.refl s)

theorem release_owns (s : State) : Owns s s.release := rfl

theorem yieldBus_owns (s : State) : Owns s s.yieldBus := by
  unfold State.yieldBus
  split
  · split <;> rfl
  · exact .refl s

theorem loseGrant_owns (s : State) : Owns s s.loseGrant := by
  unfold State.loseGrant
  split <;> rfl

theorem regainGrant_owns (s : State) : Owns s s.regainGrant := by
  unfold State.regainGrant
  split <;> rfl

theorem unyield_owns (s : State) : Owns s s.unyield := by
  unfold State.unyield
  split <;> rfl

theorem writeGrantPatience_owns (v : BitVec 8) (s : State) : Owns s (s.writeGrantPatience v) := by
  unfold State.writeGrantPatience
  simp only
  split
  · rfl
  · split
    · rfl
    · split <;> rfl
  · rfl

theorem BusMove.settles {s t : State} (h : BusMove s t) : Settles s t := by
  cases h with
  | grant =>
    have level : Owns s (s.grantLevel true) := rfl
    exact (level.trans (regainGrant_owns _)).settles (poll_settles _)
  | withdrawal =>
    have level : Owns s (s.grantLevel false) := rfl
    exact .owns (level.trans (loseGrant_owns _))
  | yield =>
    have level : Owns s (s.yieldLevel true) := rfl
    exact .owns (level.trans (yieldBus_owns _))
  | unyield =>
    have level : Owns s (s.yieldLevel false) := rfl
    exact level.settles (poll_settles _)
  | honor v =>
    have stored : Owns s { s with master := { s.master with yieldHonor := v } } := rfl
    unfold State.writeYieldHonor
    simp only
    split
    · exact .owns (stored.trans (yieldBus_owns _))
    · exact (stored.trans (unyield_owns _)).settles (poll_settles _)
  | patience v => exact .owns (writeGrantPatience_owns v s)
  | patienceExpired =>
    unfold State.expireGrantPatience
    split
    · exact .owns rfl
    · exact .owns (.refl s)
  | holdExpired =>
    unfold State.expireHold
    split
    · exact .owns rfl
    · exact .owns (.refl s)

/-! ### What the changes of the clients leave alone -/

/-- The same master but for ACK_LIMIT, the same lines but LATN, and a datapath reset in progress or not as before. -/
structure SameBus (s t : State) : Prop where
  master : { t.master with ackLimit := s.master.ackLimit } = s.master
  pins : { t.pins with latn := s.pins.latn } = s.pins
  busy : t.power.resetBusy = s.power.resetBusy

theorem SameBus.refl (s : State) : SameBus s s := ⟨rfl, rfl, rfl⟩

theorem SameBus.trans {s t u : State} (h : SameBus s t) (k : SameBus t u) : SameBus s u := by
  obtain ⟨hm, hp, hb⟩ := h
  obtain ⟨km, kp, kb⟩ := k
  rw [← km] at hm
  rw [← kp] at hp
  exact ⟨hm, hp, kb.trans hb⟩

theorem SameBus.transfer {s t : State} (h : SameBus s t) : t.master.transfer = s.master.transfer :=
  (congrArg Master.transfer h.master :)

theorem SameBus.own {s t : State} (h : SameBus s t) : t.master.own = s.master.own :=
  (congrArg Master.own h.master :)

theorem SameBus.mark {s t : State} (h : SameBus s t) : t.master.releaseMark = s.master.releaseMark :=
  (congrArg Master.releaseMark h.master :)

theorem SameBus.run {s t : State} (h : SameBus s t) : t.master.run = s.master.run :=
  (congrArg Master.run h.master :)

theorem SameBus.pon {s t : State} (h : SameBus s t) : t.pins.pon = s.pins.pon :=
  (congrArg Pins.pon h.pins :)

theorem SameBus.lbgnt {s t : State} (h : SameBus s t) : t.pins.lbgnt = s.pins.lbgnt :=
  (congrArg Pins.lbgnt h.pins :)

theorem SameBus.yieldAsked {s t : State} (h : SameBus s t) : t.yieldAsked = s.yieldAsked := by
  have lyld : t.pins.lyld = s.pins.lyld := (congrArg Pins.lyld h.pins :)
  have honor : t.master.yieldHonor = s.master.yieldHonor := (congrArg Master.yieldHonor h.master :)
  unfold State.yieldAsked
  rw [lyld, honor]

theorem Still.sameBus {s t : State} (h : Still s t) : SameBus s t := by
  cases h with
  | quiet h =>
    have master : t.master = s.master := (congrArg State.master h :)
    exact ⟨by rw [master], (congrArg State.pins h :), (congrArg (fun u : State => u.power.resetBusy) h :)⟩
  | _ => exact ⟨rfl, rfl, rfl⟩

theorem Still.now {s t : State} (h : Still s t) : t.now = s.now := by
  cases h with
  | quiet h => exact (congrArg State.now h :)
  | _ => rfl

theorem Still.power {s t : State} (h : Still s t) : t.power.state = s.power.state := by
  cases h with
  | quiet h => exact (congrArg (fun u : State => u.power.state) h :)
  | _ => rfl

theorem Change.sameBus {ending : Prop} {s t : State} (h : Change ending s t) : SameBus s t := by
  cases h with
  | still h => exact h.sameBus
  | _ => exact ⟨rfl, rfl, rfl⟩

/-- No time passes at the end of a transfer, and the power state stands. -/
theorem Change.moment {s t : State} (h : Change True s t) : t.now = s.now ∧ t.power.state = s.power.state := by
  cases h with
  | still h => exact ⟨h.now, h.power⟩
  | later _ he => exact absurd trivial he
  | power _ _ _ _ _ _ he => exact absurd trivial he
  | _ => exact ⟨rfl, rfl⟩

theorem markFailed_frame (e : EntryIdx) (s : State) : { s.markFailed e with table := s.table } = s := by
  unfold State.markFailed
  split
  · split <;> rfl
  · rfl

theorem Finish.sameBus {x : Transfer} {s t : State} (h : Finish x s t) : SameBus s t := by
  cases h with
  | failed _ r rest =>
    have frame := markFailed_frame r.entry (s.setRecords (rest.filter (fun q => !decide (q.entry = r.entry))))
    have master := (congrArg State.master frame :)
    have pins := (congrArg State.pins frame :)
    exact ⟨by rw [master]; rfl, by rw [pins]; rfl, (congrArg (fun u : State => u.power.resetBusy) frame :)⟩
  | _ => exact ⟨rfl, rfl, rfl⟩

theorem Finish.moment {x : Transfer} {s t : State} (h : Finish x s t) :
    t.now = s.now ∧ t.power.state = s.power.state := by
  cases h with
  | failed _ r rest =>
    have frame := markFailed_frame r.entry (s.setRecords (rest.filter (fun q => !decide (q.entry = r.entry))))
    exact ⟨(congrArg State.now frame :), (congrArg (fun u : State => u.power.state) frame :)⟩
  | _ => exact ⟨rfl, rfl⟩

/-- The end of a transfer keeps a law that its parts keep. -/
theorem delivered_keeps {P : State → Prop} {s u : State} {x : Transfer} (h : Delivered x s.withoutTransfer u)
    (hs : P s.withoutTransfer) (change : ∀ {v w}, Change True v w → P v → P w)
    (finish : ∀ {v w}, x.discard = false → Finish x v w → P v → P w) : P u := by
  have chain {v w : State} (hc : Changes True v w) (hv : P v) : P w := by
    induction hc with
    | refl => exact hv
    | tail _ h ih => exact change h ih
  rcases h.ended rfl with ⟨_, rfl⟩ | ⟨hd, v, w, stills, ending, changes⟩
  · exact hs
  · exact chain changes (finish hd ending (chain stills.changes hs))

theorem Delivered.sameBus {x : Transfer} {s u : State} (h : Delivered x s.withoutTransfer u) :
    SameBus s.withoutTransfer u :=
  delivered_keeps (P := SameBus s.withoutTransfer) h (.refl _) (fun k hk => hk.trans k.sameBus)
    (fun _ k hk => hk.trans k.sameBus)

theorem Delivered.transfer {x : Transfer} {s u : State} (h : Delivered x s.withoutTransfer u) :
    u.master.transfer = none :=
  h.sameBus.transfer

theorem Delivered.moment {x : Transfer} {s u : State} (h : Delivered x s.withoutTransfer u) :
    u.now = s.now ∧ u.power.state = s.power.state :=
  delivered_keeps (P := fun v => v.now = s.now ∧ v.power.state = s.power.state) h ⟨rfl, rfl⟩
    (fun k hk => ⟨k.moment.1.trans hk.1, k.moment.2.trans hk.2⟩)
    (fun _ k hk => ⟨k.moment.1.trans hk.1, k.moment.2.trans hk.2⟩)

/-- What a law asks that looks neither at the ownership state nor at the lines of the bus: every part of an event keeps
it. -/
structure Kept (P : State → Prop) : Prop where
  owns : ∀ {s u}, Owns s u → P s → P u
  issue : ∀ {s} {c : Client}, s.choose = some c → P s → P (s.issue c)
  change : ∀ {s t}, Change False s t → P s → P t
  pins : ∀ {s} (p : Pins), s.pins.pon = true → P s → P { s with pins := p }
  powerOn : ∀ {s}, P s → P s.powerOn
  moduleReset : ∀ {s}, s.hostHeld = false → P s → P s.moduleResetBegin
  carryOut : ∀ {s}, s.master.transfer = none → P s → P s.carryOut
  discarded : ∀ {s} {x : Transfer}, s.master.transfer = some x → P s →
    P { s with
      power := { s.power with resetBusy := true }
      master := { s.master with transfer := some { x with discard := true } } }
  beat : ∀ {s} {x : Transfer} (ld : Word), s.master.transfer = some x → P s →
    P (s.startTransfer (x.acked ld s.beatTimer))
  delivered : ∀ {s u} {x : Transfer}, s.master.transfer = some x → Delivered x s.withoutTransfer u → P s → P u

theorem Kept.changes {P : State → Prop} (k : Kept P) {s t : State} (h : Changes False s t) (hs : P s) : P t := by
  induction h with
  | refl => exact hs
  | tail _ change ih => exact k.change change ih

theorem Kept.settles {P : State → Prop} (k : Kept P) {s t : State} (h : Settles s t) (hs : P s) : P t := by
  cases h with
  | owns h => exact k.owns h hs
  | issued c h hc => exact k.issue (h.choose.trans hc) (k.owns h hs)

theorem Kept.act {P : State → Prop} (k : Kept P) (s t : State) (h : Act s t) (hs : P s) : P t := by
  cases h with
  | still h => exact k.change (.still h) hs
  | calm h => exact k.change h hs
  | polled _ h => exact k.settles (poll_settles _) (k.changes h hs)
  | bus _ h => exact k.settles h.settles hs
  | pins p hp => exact k.pins p hp hs
  | idle n => exact k.change (.later n id) hs
  | late n => exact k.change (.later n id) hs
  | powerOn => exact k.powerOn hs
  | moduleReset _ hh => exact k.moduleReset hh hs
  | carriedOut _ hx => exact k.carryOut hx hs
  | discarded x _ hx => exact k.discarded hx hs
  | beat x ld _ hx => exact k.beat ld hx hs
  | ended x n _ hx h =>
    have delivered := k.delivered hx h hs
    split
    · exact k.carryOut h.transfer delivered
    · exact k.settles (settle_settles _ _) delivered

theorem Kept.step {P : State → Prop} (k : Kept P) {s t : State} (h : Machine.step s = .next t) (hs : P s) : P t :=
  step_keeps k.act h hs

end Sys2Proof.Machine

/-! SUPPORT and PROOFS. Every step keeps one proposal per setting and values in range (R127, R131, R134). -/

namespace Sys2Proof.Machine

/-! ### Proposals (R127, R131, R134) -/

theorem mem_withoutSetting {n : NegSetting} {l : List Proposal} {p : Proposal} :
    p ∈ withoutSetting n l ↔ p ∈ l ∧ p.setting ≠ n := by
  simp [withoutSetting]

section
variable {s : State} (h : s.proposalLaw)
include h

theorem propose_proposalLaw {n : NegSetting} {v : BitVec 4} (hv : inRange n v = true) : (s.propose n v).proposalLaw := by
  obtain ⟨hpw, hp, hn, ha⟩ := h
  have neg (m : NegSetting) : (s.propose n v).settings.neg m =
      if m = n then { s.settings.neg n with serial := (s.settings.neg n).serial + 1, outcome := .pending, reason := 0 }
      else s.settings.neg m := by
    simp [State.propose, neg_setNeg]
  refine ⟨?_, fun p hmem => ?_, fun m hm => ?_, fun m => ?_⟩
  · refine List.pairwise_append.2 ⟨hpw.filter _, List.pairwise_singleton .., fun p hp q hq => ?_⟩
    rw [List.mem_singleton] at hq
    exact hq ▸ (mem_withoutSetting.1 hp).2
  · rw [neg]
    rcases List.mem_append.1 hmem with hmem | hmem
    · obtain ⟨hold, hne⟩ := mem_withoutSetting.1 hmem
      simpa [hne] using hp p hold
    · rw [List.mem_singleton] at hmem
      simpa [hmem] using hv
  · by_cases hmn : m = n
    · exact ⟨_, List.mem_append_right _ (List.mem_singleton_self _), hmn.symm⟩
    · rw [neg, if_neg hmn] at hm
      obtain ⟨p, hmem, hset⟩ := hn m hm
      exact ⟨p, List.mem_append_left _ (mem_withoutSetting.2 ⟨hmem, hset ▸ hmn⟩), hset⟩
  · rw [neg]
    split
    next hmn => exact hmn ▸ ha n
    next => exact ha m

theorem endProposal_proposalLaw {n : NegSetting} {o : SettingOutcome} (reason : BitVec 4) (ho : o ≠ .pending) :
    (s.endProposal n o reason).proposalLaw := by
  obtain ⟨hpw, hp, hn, ha⟩ := h
  have neg (m : NegSetting) : (s.endProposal n o reason).settings.neg m =
      if m = n then { s.settings.neg n with outcome := o, reason := reason } else s.settings.neg m := by
    simp [State.endProposal, State.latchAnswer, neg_setNeg]
  refine ⟨hpw.filter _, fun p hmem => ?_, fun m hm => ?_, fun m => ?_⟩
  · obtain ⟨hold, hne⟩ := mem_withoutSetting.1 hmem
    simpa [neg, hne] using hp p hold
  · by_cases hmn : m = n
    · simp [neg, hmn, ho] at hm
    · rw [neg, if_neg hmn] at hm
      obtain ⟨p, hmem, hset⟩ := hn m hm
      exact ⟨p, mem_withoutSetting.2 ⟨hmem, hset ▸ hmn⟩, hset⟩
  · rw [neg]
    split
    next hmn => exact hmn ▸ ha n
    next => exact ha m

theorem setAccepted_proposalLaw {p : Proposal} (hmem : p ∈ s.settings.proposals) :
    (s.setAccepted p.setting p.value).proposalLaw := by
  obtain ⟨hpw, hp, hn, ha⟩ := h
  have neg (m : NegSetting) : (s.setAccepted p.setting p.value).settings.neg m =
      if m = p.setting then { s.settings.neg p.setting with accepted := p.value } else s.settings.neg m := by
    simp [State.setAccepted, neg_setNeg]
  have list : (s.setAccepted p.setting p.value).settings.proposals = s.settings.proposals := by simp [State.setAccepted]
  unfold State.proposalLaw
  rw [list]
  refine ⟨hpw, fun q hq => ?_, fun m hm => ?_, fun m => ?_⟩
  · rw [neg]
    split
    next hqp => simpa [hqp] using hp q hq
    next => exact hp q hq
  · refine hn m ?_
    rw [neg] at hm
    split at hm
    next hmp => exact hmp ▸ hm
    next => exact hm
  · rw [neg]
    split
    next hmp => exact hmp ▸ (hp p hmem).2.2
    next => exact ha m

theorem Still.keeps_proposalLaw {t : State} (k : Still s t) : t.proposalLaw := by
  cases k with
  | quiet k =>
    rw [← k] at h
    exact h
  | proposed n v hv => exact propose_proposalLaw h hv
  | unproposed n o r ho => exact endProposal_proposalLaw h r ho
  | accepted p hp => exact setAccepted_proposalLaw h hp
  | _ => exact h

theorem Change.keeps_proposalLaw {ending : Prop} {t : State} (k : Change ending s t) : t.proposalLaw := by
  cases k with
  | still k => exact k.keeps_proposalLaw h
  | _ => exact h

end

theorem markFailed_settings (e : EntryIdx) (s : State) : (s.markFailed e).settings = s.settings := by
  unfold State.markFailed
  split
  · split <;> rfl
  · rfl

/-- A law of the settings alone. -/
theorem proposalLaw_of_settings {s t : State} (h : t.settings = s.settings) (hs : s.proposalLaw) : t.proposalLaw := by
  unfold State.proposalLaw
  rwa [h]

theorem Finish.settings {x : Transfer} {s t : State} (h : Finish x s t) : t.settings = s.settings := by
  cases h with
  | failed => exact markFailed_settings ..
  | _ => rfl

/-- The settings after a reset hold no proposal, and each its reset value. -/
theorem resetSettings_proposalLaw {s : State} (h : s.settings.proposals = [])
    (hr : ∀ n, s.settings.neg n = Settings.reset.neg n) : s.proposalLaw := by
  unfold State.proposalLaw
  rw [h]
  refine ⟨.nil, by simp, fun n hn => ?_, fun n => ?_⟩
  · rw [hr] at hn
    cases n <;> cases hn
  · rw [hr]
    cases n <;> rfl

theorem proposalLaw_kept : Kept State.proposalLaw where
  owns h hs := by
    rw [← h] at hs
    exact hs
  issue {s c} _ hs := proposalLaw_of_settings (congrArg State.settings (issue_frame c s) :) hs
  change h hs := h.keeps_proposalLaw hs
  pins _ _ hs := hs
  powerOn _ := resetSettings_proposalLaw rfl fun _ => rfl
  moduleReset {s} _ _ := by
    refine resetSettings_proposalLaw rfl fun n => ?_
    cases n <;> rfl
  carryOut {s} _ hs := by
    refine proposalLaw_of_settings ?_ hs
    unfold State.carryOut State.releaseIfAsked
    simp only
    split <;> rfl
  discarded _ hs := hs
  beat _ _ hs := hs
  delivered hx h hs := delivered_keeps h hs (fun k h => k.keeps_proposalLaw h)
    (fun _ k h => proposalLaw_of_settings k.settings h)

/-- Settles O60: a proposal is made, superseded and ended with its setting's outcome and serial, its value is checked
before it is made, and nothing else writes the Proposal List or a negotiated setting. -/
theorem stepKeepsProposals : Obligations.StepKeepsProposals :=
  fun _ _ hs h => proposalLaw_kept.step h hs

end Sys2Proof.Machine

/-! SUPPORT and PROOFS. Every step keeps the inbound ring within its size (R104, R112). -/

namespace Sys2Proof.Machine

/-! ### The inbound ring (R104, R112) -/

theorem advance_lt {size : Nat} (i n : Nat) (h : 0 < size) : advance size i n < 2 * size := Nat.mod_lt _ (by omega)

/-- An index advanced into the free part of the ring is that much farther away. -/
theorem ringDist_advance {size a b n : Nat} (ha : a < 2 * size) (hb : b < 2 * size) (h : ringDist size a b + n ≤ size) :
    ringDist size a (advance size b n) = ringDist size a b + n := by
  have pos : 0 < size := by omega
  have small : b + n < 2 * size + 2 * size := by
    rw [ringDist_eq ha hb] at h
    split at h <;> omega
  have value : advance size b n = if b + n < 2 * size then b + n else b + n - 2 * size := by
    unfold advance
    split
    · exact Nat.mod_eq_of_lt ‹_›
    · rw [Nat.mod_eq_sub_mod (by omega), Nat.mod_eq_of_lt (by omega)]
  rw [ringDist_eq ha (advance_lt b n pos), value]
  rw [ringDist_eq ha hb] at h ⊢
  split_ifs at h ⊢ <;> omega

/-- The length of a move is at least 1, and within the FIFO and the ring's free part (R112). -/
theorem moveLen_range {c : Inbound} (h : c.moveReady = true) :
    (c.state = .running ∨ c.state = .flushing) ∧ 1 ≤ c.moveLen ∧ c.moveLen ≤ c.fifo.length ∧ c.moveLen ≤ c.ringFree := by
  simp only [Inbound.moveReady, Bool.and_eq_true, Bool.or_eq_true, decide_eq_true_eq, Bool.not_eq_true',
    List.isEmpty_eq_false_iff] at h
  obtain ⟨⟨⟨state, fifo⟩, free⟩, _⟩ := h
  have length : 1 ≤ c.fifo.length := List.length_pos_iff.2 fifo
  have skip : skipOf c.moveAddr < 4 := Nat.mod_lt _ (by decide)
  have left : c.produce % ringSize c.size < ringSize c.size := Nat.mod_lt _ (ringSize_pos c.size)
  have run : 4 ≤ Config.runBytes := by decide
  unfold Inbound.moveLen
  refine ⟨state, ?_, by omega, by omega⟩
  omega

theorem inboundLaw_of_no_move {s t : State} (hs : s.inboundLaw)
    (hr : t.inb.produce = s.inb.produce ∧ t.inb.consume = s.inb.consume ∧ t.inb.size = s.inb.size)
    (hx : ∀ x ∈ t.master.transfer, x.client = .inbound → x.discard = true) : t.inboundLaw := by
  obtain ⟨hp, hc, hz⟩ := hr
  obtain ⟨h1, h2, h3, _⟩ := hs
  refine ⟨?_, ?_, ?_, fun x hmem hcl hd => ?_⟩
  · rwa [hp, hz]
  · rwa [hc, hz]
  · simpa [Inbound.occupancy, hp, hc, hz] using h3
  · simp [hx x hmem hcl] at hd

/-- An empty ring is in order. -/
theorem inboundLaw_of_empty {s : State} (h : s.inb.produce = 0 ∧ s.inb.consume = 0)
    (hx : ∀ x ∈ s.master.transfer, x.client = .inbound → x.discard = true) : s.inboundLaw := by
  obtain ⟨hp, hc⟩ := h
  have pos := ringSize_pos s.inb.size
  refine ⟨?_, ?_, ?_, fun x hmem hcl hd => ?_⟩
  · omega
  · omega
  · simp [Inbound.occupancy, hp, hc, ringDist]
  · simp [hx x hmem hcl] at hd

theorem carryOut_transfer (s : State) : s.carryOut.master.transfer = s.master.transfer := by
  unfold State.carryOut State.releaseIfAsked
  simp only
  split <;> rfl

/-- A transfer in flight at a module reset is marked discarded (R82). -/
theorem moduleReset_discards (s : State) : ∀ x ∈ s.moduleResetBegin.master.transfer, x.discard = true := by
  have master : s.moduleResetBegin.master = s.resetMaster.master := rfl
  rw [master]
  unfold State.resetMaster State.releaseIfAsked
  simp only
  split
  next => simp
  next h =>
    split
    · simp [h, Master.clearArbiter]
    · simp [h, Master.clearArbiter, State.release]

theorem issue_inboundLaw {s : State} {c : Client} (hc : s.choose = some c) (hs : s.inboundLaw) :
    (s.issue c).inboundLaw := by
  have eligible := choose_eligible hc
  have inb : (s.issue c).inb = s.inb := (congrArg State.inb (issue_frame c s) :)
  have other (hne : c ≠ .inbound) : (s.issue c).inboundLaw := by
    refine inboundLaw_of_no_move hs (by simp [inb]) fun x hx hcl => ?_
    obtain ⟨y, hy, hyc, _⟩ := issue_transfer eligible
    simp only [hy, Option.mem_def, Option.some.injEq] at hx
    exact absurd (hyc.symm.trans (hx ▸ hcl)) hne
  cases c with
  | inbound =>
    have ready : s.inb.moveReady = true := by
      simp only [State.eligible, Bool.and_eq_true] at eligible
      exact eligible.2.1
    obtain ⟨h1, h2, h3, _⟩ := hs
    refine ⟨h1, h2, h3, fun x hx _ _ => ?_⟩
    simp only [State.issue, State.account, State.issueMove, State.startTransfer, Option.mem_def, Option.some.injEq] at hx
    rw [← hx]
    exact moveLen_range ready
  | _ => exact other nofun

/-- A move applied advances IN_PRODUCE into the free part of the ring (R113). -/
theorem moved_inboundLaw {s : State} {n : Nat} (hx : s.master.transfer = none) (hs : s.inboundLaw)
    (hn : n ≤ s.inb.ringFree) : (s.setInb (s.inb.moved n)).inboundLaw := by
  obtain ⟨h1, h2, h3, _⟩ := hs
  unfold Inbound.ringFree at hn
  have fits : s.inb.occupancy + n ≤ ringSize s.inb.size := by omega
  refine ⟨advance_lt _ _ (ringSize_pos _), h2, ?_, fun x hmem => ?_⟩
  · exact (ringDist_advance h2 h1 fits).trans_le fits
  · simp [State.setInb, hx] at hmem

theorem Still.keeps_inboundLaw {s t : State} (k : Still s t) (hs : s.inboundLaw) : t.inboundLaw := by
  cases k with
  | quiet k =>
    rw [← k] at hs
    exact hs
  | _ => exact hs

theorem Still.ringFree {s t : State} (k : Still s t) : t.inb.ringFree = s.inb.ringFree := by
  cases k with
  | quiet k => exact (congrArg (fun u : State => u.inb.ringFree) k :)
  | _ => rfl

theorem Change.keeps_inboundLaw {ending : Prop} {s t : State} (k : Change ending s t) (hs : s.inboundLaw) :
    t.inboundLaw := by
  cases k with
  | still k => exact k.keeps_inboundLaw hs
  | entered bytes l n hb =>
    obtain ⟨h1, h2, h3, h4⟩ := hs
    refine ⟨h1, h2, h3, fun x hx hc hd => ?_⟩
    obtain ⟨state, pos, fifo, free⟩ := h4 x hx hc hd
    exact ⟨state, pos, fifo.trans (by simp [State.setInb]), free⟩
  | inbound c _ _ _ _ hl => exact hl hs
  | _ => exact hs

theorem markFailed_inboundLaw {e : EntryIdx} {s : State} (hs : s.inboundLaw) : (s.markFailed e).inboundLaw := by
  rw [← markFailed_frame e s] at hs
  exact hs

/-- The end of a transfer keeps the inbound ring in order; the run of a move fits it. -/
theorem delivered_inboundLaw {s u : State} {x : Transfer} (hx : s.master.transfer = some x)
    (h : Delivered x s.withoutTransfer u) (hs : s.inboundLaw) : u.inboundLaw := by
  have idle : s.withoutTransfer.inboundLaw := inboundLaw_of_no_move hs ⟨rfl, rfl, rfl⟩ nofun
  have chain {v w : State} (hc : Changes True v w) (hv : v.inboundLaw) : w.inboundLaw := by
    induction hc with
    | refl => exact hv
    | tail _ k ih => exact k.keeps_inboundLaw ih
  rcases h.ended rfl with ⟨_, rfl⟩ | ⟨hd, v, w, stills, finish, changes⟩
  · exact idle
  · have before : v.inboundLaw := chain stills.changes idle
    have same : v.master.transfer = none ∧ v.inb.ringFree = s.inb.ringFree := by
      clear before finish changes
      induction stills with
      | refl => exact ⟨rfl, rfl⟩
      | tail _ k ih => exact ⟨k.sameBus.transfer.trans ih.1, k.ringFree.trans ih.2⟩
    refine chain changes ?_
    cases finish with
    | moved hc =>
      obtain ⟨_, _, _, h4⟩ := hs
      obtain ⟨_, _, _, free⟩ := h4 x hx hc hd
      exact moved_inboundLaw same.1 before (same.2 ▸ free)
    | failed _ r rest => exact markFailed_inboundLaw before
    | _ => exact before

theorem inboundLaw_kept : Kept State.inboundLaw where
  owns h hs := by
    rw [← h] at hs
    exact hs
  issue hc hs := issue_inboundLaw hc hs
  change h hs := h.keeps_inboundLaw hs
  pins _ _ hs := hs
  powerOn _ := inboundLaw_of_empty ⟨rfl, rfl⟩ nofun
  moduleReset {s} _ _ := inboundLaw_of_empty ⟨rfl, rfl⟩ fun x hx _ => moduleReset_discards s x hx
  carryOut {s} hx _ := inboundLaw_of_empty ⟨rfl, rfl⟩ fun x hmem => by
    simp [carryOut_transfer, hx] at hmem
  discarded _ hs := inboundLaw_of_no_move hs ⟨rfl, rfl, rfl⟩ fun x hx _ => by
    cases hx
    rfl
  beat {s x} _ hx hs := by
    obtain ⟨h1, h2, h3, h4⟩ := hs
    refine ⟨h1, h2, h3, fun y hy hc hd => ?_⟩
    cases hy
    exact h4 x hx hc hd
  delivered hx h hs := delivered_inboundLaw hx h hs

/-- Settles O58: a move takes at most the free part and what the FIFO holds, and
no change before its end takes bytes from the FIFO or room from the ring. -/
theorem stepKeepsTheInboundRing : Obligations.StepKeepsTheInboundRing :=
  fun _ _ hs h => inboundLaw_kept.step h hs

end Sys2Proof.Machine

/-! SUPPORT and PROOFS. Every step keeps at most one holder of the host, with HWAIT, the answer and the Stall Monitor in
agreement (R84, R85, R110, R120). -/

namespace Sys2Proof.Machine

/-! ### The host in wait -/

/-- A host that no block holds: the answer stands and no stall timer runs. -/
theorem hostLaw_of_free {s : State} (h : s.hostHeld = false) (hr : s.hostReply ≠ .held) (ht : s.stall = none) :
    s.hostLaw := by
  obtain ⟨hw, hs, hi, ho⟩ := (not_held_iff s).1 h
  simp [State.hostLaw, h, hw, hs, hi, ho, hr, ht]

/-- The parts of the state that the host's law looks at. -/
theorem hostLaw_of_same {s t : State} (h : s.hostLaw) (hw : t.pwq.held = s.pwq.held)
    (hs : t.slot.record.isSome = s.slot.record.isSome) (hi : t.inb.held = s.inb.held) (ho : t.outb.held = s.outb.held)
    (hr : t.hostReply = s.hostReply) (ht : t.stall = s.stall)
    (ha : s.hostHeld = true → s.power.state = .active ∧ s.pins.pon = false → t.power.state = .active ∧ t.pins.pon = false)
    (hin : s.inb.held.isSome = true → s.inb.state = .running ∨ s.power.resetBusy = true →
      t.inb.state = .running ∨ t.power.resetBusy = true)
    (hout : s.outb.held.isSome = true → s.outb.state = .running ∨ s.power.resetBusy = true →
      t.outb.state = .running ∨ t.power.resetBusy = true) : t.hostLaw := by
  obtain ⟨write, read, stream, held, active, inbound, outbound, timer⟩ := h
  have held' : t.hostHeld = s.hostHeld := by unfold State.hostHeld; rw [hw, hs, hi, ho]
  have none_iff : t.slot.record = none ↔ s.slot.record = none := by
    rw [← Option.not_isSome_iff_eq_none, hs, Option.not_isSome_iff_eq_none]
  refine ⟨?_, ?_, ?_, ?_, ?_, ?_, ?_, ?_⟩
  · rw [hw, none_iff, hi, ho]
    exact write
  · rw [hs, hi, ho]
    exact read
  · rw [hi, ho]
    exact stream
  · rw [held', hr]
    exact held
  · rw [held']
    exact fun k => ha k (active k)
  · rw [hi]
    exact fun k => hin k (inbound k)
  · rw [ho]
    exact fun k => hout k (outbound k)
  · rw [ht]
    intro t' hmem
    have := timer t' hmem
    revert this
    cases t'.holder <;> simp [hw, hs, hi, ho]

theorem stall_none_of_free {s : State} (h : s.hostLaw) (hh : s.hostHeld = false) : s.stall = none := by
  obtain ⟨_, _, _, _, _, _, _, timer⟩ := h
  obtain ⟨hw, hs, hi, ho⟩ := (not_held_iff s).1 hh
  cases ht : s.stall with
  | none => rfl
  | some t =>
    have holds := timer t ht
    revert holds
    cases t.holder <;> simp [hw, hs, hi, ho]

theorem reply_of_free {s : State} (h : s.hostLaw) (hh : s.hostHeld = false) : s.hostReply ≠ .held := by
  obtain ⟨_, _, _, held, _⟩ := h
  exact fun hr => by simp [held.2 hr] at hh

/-- One block holds the host and no other; a channel that does is RUNNING. -/
def State.heldOnlyBy (s : State) : Holder → Prop
  | .pwq => s.pwq.held ≠ .none ∧ s.slot.record = none ∧ s.inb.held = none ∧ s.outb.held = none
  | .readSlot => s.pwq.held = .none ∧ s.slot.record.isSome = true ∧ s.inb.held = none ∧ s.outb.held = none
  | .inbound =>
    s.pwq.held = .none ∧ s.slot.record = none ∧ s.inb.held.isSome = true ∧ s.outb.held = none ∧ s.inb.state = .running
  | .outbound =>
    s.pwq.held = .none ∧ s.slot.record = none ∧ s.inb.held = none ∧ s.outb.held.isSome = true ∧ s.outb.state = .running

section
variable {s : State} (h : s.hostLaw)
include h

/-- The host of a held aperture write released. -/
theorem freeWrite_hostLaw {r : HostReply} (hr : r ≠ .held) (hw : s.pwq.held ≠ .none) :
    ((s.setHeld .none).releaseHost r).hostLaw := by
  obtain ⟨write, _⟩ := h
  obtain ⟨hs, hi, ho⟩ := write hw
  exact hostLaw_of_free ((not_held_iff _).2 ⟨rfl, hs, hi, ho⟩) hr rfl

/-- A held read answered. -/
theorem freeRead_hostLaw {r : HostReply} (hr : r ≠ .held) (hs : s.slot.record.isSome = true) :
    ((s.setRead none).releaseHost r).hostLaw := by
  obtain ⟨write, read, _⟩ := h
  obtain ⟨hi, ho⟩ := read hs
  have hw : s.pwq.held = .none := by
    by_contra hw
    simp [(write hw).1] at hs
  exact hostLaw_of_free ((not_held_iff _).2 ⟨hw, rfl, hi, ho⟩) hr rfl

/-- The host of a held Stream Data write released. -/
theorem freeIn_hostLaw {r : HostReply} (hr : r ≠ .held) (hi : s.inb.held.isSome = true) :
    ((s.setInb { s.inb with held := none }).releaseHost r).hostLaw := by
  obtain ⟨write, read, stream, _⟩ := h
  have hw : s.pwq.held = .none := by
    by_contra hw
    simp [(write hw).2.1] at hi
  have hs : s.slot.record = none := by
    rw [← Option.not_isSome_iff_eq_none]
    exact fun hs => by simp [(read hs).1] at hi
  exact hostLaw_of_free ((not_held_iff _).2 ⟨hw, hs, rfl, stream hi⟩) hr rfl

/-- The host of a held Stream Data read released. -/
theorem freeOut_hostLaw {r : HostReply} (hr : r ≠ .held) (ho : s.outb.held.isSome = true) :
    ((s.setOutb { s.outb with held := none }).releaseHost r).hostLaw := by
  obtain ⟨write, read, stream, _⟩ := h
  have hw : s.pwq.held = .none := by
    by_contra hw
    simp [(write hw).2.2] at ho
  have hs : s.slot.record = none := by
    rw [← Option.not_isSome_iff_eq_none]
    exact fun hs => by simp [(read hs).2] at ho
  have hi : s.inb.held = none := by
    rw [← Option.not_isSome_iff_eq_none]
    exact fun hi => by simp [stream hi] at ho
  exact hostLaw_of_free ((not_held_iff _).2 ⟨hw, hs, hi, rfl⟩) hr rfl

/-- The host held by a block, with the stall timer of that block unless STALL_LIMIT is 0 (R84). -/
theorem holdHost_hostLaw {k : Holder} {u : State} (hh : s.hostHeld = false) (stall : u.stall = s.stall)
    (ha : u.power.state = .active ∧ u.pins.pon = false) (hk : u.heldOnlyBy k) : (u.holdHost k).hostLaw := by
  have timer : ∀ x ∈ (u.holdHost k).stall, x.holder = k := by
    intro x hx
    simp only [State.holdHost, stall, stall_none_of_free h hh] at hx
    split at hx
    · cases hx
    · cases hx
      rfl
  have reply : (u.holdHost k).hostReply = .held := rfl
  have active : (u.holdHost k).power.state = .active ∧ (u.holdHost k).pins.pon = false := ha
  have only : (u.holdHost k).heldOnlyBy k := hk
  generalize u.holdHost k = t at *
  cases k with
  | pwq =>
    obtain ⟨hw, hs, hi, ho⟩ := only
    have held : t.hostHeld = true := by simp [State.hostHeld, hw]
    exact ⟨fun _ => ⟨hs, hi, ho⟩, by simp [hs], by simp [hi], by simp [held, reply], fun _ => active, by simp [hi],
      by simp [ho], fun x hx => by simpa [timer x hx] using hw⟩
  | readSlot =>
    obtain ⟨hw, hs, hi, ho⟩ := only
    have held : t.hostHeld = true := by simp [State.hostHeld, hs]
    exact ⟨by simp [hw], fun _ => ⟨hi, ho⟩, by simp [hi], by simp [held, reply], fun _ => active, by simp [hi],
      by simp [ho], fun x hx => by simpa [timer x hx] using hs⟩
  | inbound =>
    obtain ⟨hw, hs, hi, ho, running⟩ := only
    have held : t.hostHeld = true := by simp [State.hostHeld, hi]
    exact ⟨by simp [hw], by simp [hs], fun _ => ho, by simp [held, reply], fun _ => active, fun _ => .inl running,
      by simp [ho], fun x hx => by simpa [timer x hx] using hi⟩
  | outbound =>
    obtain ⟨hw, hs, hi, ho, running⟩ := only
    have held : t.hostHeld = true := by simp [State.hostHeld, ho]
    exact ⟨by simp [hw], by simp [hs], by simp [hi], by simp [held, reply], fun _ => active, by simp [hi],
      fun _ => .inl running, fun x hx => by simpa [timer x hx] using ho⟩

theorem Still.keeps_hostLaw {t : State} (k : Still s t) : t.hostLaw := by
  cases k with
  | quiet k =>
    rw [← k] at h
    exact h
  | reply r hr hh =>
    have free : s.hostHeld = false := by
      rcases hh with hh | hp
      · exact hh
      · obtain ⟨_, _, _, _, active, _⟩ := h
        by_contra hc
        simp [(active (by simpa using hc)).2] at hp
    exact hostLaw_of_free free hr (stall_none_of_free (s := s) h free)
  | untimed =>
    obtain ⟨write, read, stream, held, active, inbound, outbound, _⟩ := h
    exact ⟨write, read, stream, held, active, inbound, outbound, nofun⟩
  | rewait w q hw =>
    obtain ⟨write, read, stream, held, active, inbound, outbound, timer⟩ := h
    have others := write (by simp [hw])
    have same : (s.setHeld (.recordWait q)).hostHeld = s.hostHeld := by simp [State.hostHeld, State.setHeld, hw]
    refine ⟨fun _ => others, read, stream, by rw [same]; exact held, fun k => active (same ▸ k), inbound, outbound,
      fun t ht => ?_⟩
    have holds := timer t ht
    revert holds
    cases t.holder <;> simp [State.setHeld]
  | freeWrite r hr hw => exact freeWrite_hostLaw h hr hw
  | freeIn r hr hi => exact freeIn_hostLaw h hr hi
  | freeOut r hr ho => exact freeOut_hostLaw h hr ho
  | holdWrite w hh ha hn =>
    obtain ⟨hw, hs, hi, ho⟩ := (not_held_iff s).1 hh
    exact holdHost_hostLaw h hh rfl ha ⟨hn, hs, hi, ho⟩
  | holdRead r hh ha _ =>
    obtain ⟨hw, hs, hi, ho⟩ := (not_held_iff s).1 hh
    exact holdHost_hostLaw h hh rfl ha ⟨hw, rfl, hi, ho⟩
  | holdIn b hh ha hrun =>
    obtain ⟨hw, hs, hi, ho⟩ := (not_held_iff s).1 hh
    exact holdHost_hostLaw h hh rfl ha ⟨hw, hs, rfl, ho, hrun⟩
  | holdOut b hh ha hrun =>
    obtain ⟨hw, hs, hi, ho⟩ := (not_held_iff s).1 hh
    exact holdHost_hostLaw h hh rfl ha ⟨hw, hs, hi, rfl, hrun⟩
  | readKind r k hr =>
    exact hostLaw_of_same h rfl (by simp [State.setRead, hr]) rfl rfl rfl rfl (fun _ => id) (fun _ => id) (fun _ => id)
  | _ => exact h

theorem Change.keeps_hostLaw {ending : Prop} {t : State} (k : Change ending s t) : t.hostLaw := by
  cases k with
  | still k => exact k.keeps_hostLaw h
  | power p low hh =>
    exact hostLaw_of_same (s := s) h rfl rfl rfl rfl rfl rfl (fun held ha => ⟨hh held ha.1, ha.2⟩) (fun _ => id) (fun _ => id)
  | ordered r hr =>
    exact hostLaw_of_same h rfl (by simp [State.setRead, hr]) rfl rfl rfl rfl (fun _ => id) (fun _ => id) (fun _ => id)
  | readEnded r a ha hr => exact freeRead_hostLaw h ha (by simp [hr])
  | orphaned r o a ha hr => exact freeRead_hostLaw h ha (by simp [hr])
  | inbound c _ _ hh hs =>
    exact hostLaw_of_same h rfl rfl hh rfl rfl rfl (fun _ => id)
      (fun held run => run.elim (hs (hh ▸ held)) .inr) (fun _ => id)
  | outbound c _ hh hs =>
    exact hostLaw_of_same h rfl rfl rfl hh rfl rfl (fun _ => id) (fun _ => id)
      (fun held run => run.elim (hs (hh ▸ held)) .inr)
  | _ => exact h

theorem markFailed_hostLaw {e : EntryIdx} : (s.markFailed e).hostLaw := by
  rw [← markFailed_frame e s] at h
  exact h

theorem Finish.keeps_hostLaw {x : Transfer} {t : State} (k : Finish x s t) : t.hostLaw := by
  cases k with
  | failed _ r rest =>
    exact markFailed_hostLaw (s := s.setRecords (rest.filter (fun q => !decide (q.entry = r.entry)))) h
  | read _ r a ha hr => exact freeRead_hostLaw h ha (by simp [hr])
  | _ => exact h

end

/-- An issue leaves the holders of the host and the outbound channel's state. -/
theorem issue_holders (c : Client) (s : State) :
    (s.issue c).pwq.held = s.pwq.held ∧ (s.issue c).slot.record.isSome = s.slot.record.isSome ∧
      (s.issue c).outb.held = s.outb.held ∧ (s.issue c).outb.state = s.outb.state := by
  unfold State.issue
  cases c with
  | readSlot =>
    simp only [State.account, State.issueRead]
    split
    next r hr => split <;> simp [State.setRead, State.startTransfer, State.setLine, hr]
    next => simp
  | pwq =>
    simp only [State.account, State.issueWrite]
    split <;> simp [State.startTransfer]
  | inbound => exact ⟨rfl, rfl, rfl, rfl⟩
  | outbound => exact ⟨rfl, rfl, rfl, rfl⟩

theorem issue_hostLaw {s : State} (c : Client) (h : s.hostLaw) : (s.issue c).hostLaw := by
  obtain ⟨write, read, outHeld, outState⟩ := issue_holders c s
  have frame := issue_frame c s
  have inb : (s.issue c).inb = s.inb := (congrArg State.inb frame :)
  have power : (s.issue c).power = s.power := (congrArg State.power frame :)
  have pins : (s.issue c).pins = s.pins := (congrArg State.pins frame :)
  refine hostLaw_of_same h write read (by rw [inb]) outHeld (congrArg State.hostReply frame :)
    (congrArg State.stall frame :) ?_ ?_ ?_ <;> simp [inb, power, pins, outState]

theorem resetMaster_frame (s : State) : { s.resetMaster with master := s.master } = s := by
  unfold State.resetMaster State.releaseIfAsked
  simp only
  split
  · rfl
  · split <;> rfl

theorem hostLaw_kept : Kept State.hostLaw where
  owns h hs := by
    rw [← h] at hs
    exact hs
  issue _ hs := issue_hostLaw _ hs
  change h hs := h.keeps_hostLaw hs
  pins {s} p hp hs := by
    have free : s.hostHeld = false := by
      obtain ⟨_, _, _, _, active, _⟩ := hs
      by_contra hc
      simp [(active (by simpa using hc)).2] at hp
    exact hostLaw_of_same hs rfl rfl rfl rfl rfl rfl (fun held => by simp [free] at held) (fun _ => id) (fun _ => id)
  powerOn _ := hostLaw_of_free rfl nofun rfl
  moduleReset {s} hh hs := by
    have reply : s.moduleResetBegin.hostReply = s.hostReply := (congrArg State.hostReply (resetMaster_frame s) :)
    exact hostLaw_of_free rfl (reply ▸ reply_of_free hs hh) rfl
  carryOut {s} _ hs := by
    refine hostLaw_of_free rfl ?_ rfl
    show s.resetReply ≠ .held
    unfold State.resetReply
    split
    · nofun
    · split
      · nofun
      next hh => exact reply_of_free hs (by simpa using hh)
  discarded _ hs :=
    hostLaw_of_same hs rfl rfl rfl rfl rfl rfl (fun _ => id) (fun _ _ => .inr rfl) (fun _ _ => .inr rfl)
  beat _ _ hs := hs
  delivered _ h hs := delivered_keeps h hs (fun k h => k.keeps_hostLaw h) (fun _ k h => k.keeps_hostLaw h)

/-- Settles O57: a block takes the host only when no block holds it, with the answer and the Stall Monitor; every release
gives the answer and stops the timer. -/
theorem stepKeepsTheHostInWait : Obligations.StepKeepsTheHostInWait := by
  intro s t hs h
  have law := hostLaw_kept.step h hs
  refine ⟨law, ?_⟩
  obtain ⟨_, _, _, held, active, _⟩ := law
  rw [← held, State.hwait, Bool.and_eq_true]
  exact ⟨fun k => k.2, fun k => ⟨by simp [(active k).2], k⟩⟩

end Sys2Proof.Machine

/-! SUPPORT and PROOFS. Every step keeps the entries' host ranges apart, the records in live entries, and DRAINING backed
by a record (R6, R12, R26, R98). -/

namespace Sys2Proof.Machine

/-! ### The table and the queue -/

theorem live_setLive (s : State) (e f : EntryIdx) (o : Option LiveEntry) :
    (s.setLive e o).live f = if f = e then o else s.live f := by
  split
  next h => rw [h, live_setLive_self]
  next h => exact live_setLive_ne s o h

theorem live_setEditable (s : State) (e f : EntryIdx) (v : Bool) : (s.setEditableEffect e v).live f = s.live f := by
  by_cases h : e.val = f.val
  · have : e = f := Fin.ext h
    subst this
    simp [State.live, State.setEditableEffect]
  · simp [State.live, State.setEditableEffect, h]

/-- The two laws of the table and the queue look at what the entries hold and at the records' entries. -/
def State.tableLaw (s : State) : Prop := s.apertureLaw ∧ s.queueLaw

theorem tableLaw_of_same {s t : State} (hl : ∀ e, t.live e = s.live e)
    (hr : t.pwq.records.map (·.entry) = s.pwq.records.map (·.entry)) (h : s.tableLaw) : t.tableLaw := by
  have mem (e : EntryIdx) : (∃ r ∈ t.pwq.records, r.entry = e) ↔ ∃ r ∈ s.pwq.records, r.entry = e := by
    simp only [← List.mem_map, hr]
  obtain ⟨⟨legal, apart⟩, live, drain⟩ := h
  refine ⟨⟨fun e => ?_, fun e f => ?_⟩, fun r hmem => ?_, fun e => ?_⟩
  · rw [hl]
    exact legal e
  · rw [hl, hl]
    exact apart e f
  · obtain ⟨q, hq, he⟩ := (mem r.entry).1 ⟨r, hmem, rfl⟩
    rw [hl, ← he]
    exact live q hq
  · rw [hl, mem]
    exact drain e

/-- A store of what an entry holds, with the records left after it. -/
theorem tableLaw_store {s : State} {rs : List WriteRecord} {e : EntryIdx} {o : Option LiveEntry} (h : s.tableLaw)
    (hsub : ∀ q ∈ rs, q ∈ s.pwq.records) (hkeep : ∀ q ∈ s.pwq.records, q.entry ≠ e → q ∈ rs)
    (hlegal : ∀ l ∈ o, l.ap.size.toNat ≤ 8 ∧ l.ap.page.toNat % pageCount l.ap.size = 0)
    (hapart : ∀ l ∈ o, ∀ f, f ≠ e → ∀ m ∈ s.live f, ∀ p, ¬ (l.ap.holdsPage p ∧ m.ap.holdsPage p))
    (hlive : (∃ q ∈ rs, q.entry = e) → ∃ l ∈ o, l.phase = .opened ∨ l.phase = .draining)
    (hdrain : ∀ l ∈ o, l.phase = .draining → ∃ q ∈ rs, q.entry = e) : ((s.setRecords rs).setLive e o).tableLaw := by
  have at' (f : EntryIdx) : ((s.setRecords rs).setLive e o).live f = if f = e then o else s.live f := live_setLive ..
  have records : ((s.setRecords rs).setLive e o).pwq.records = rs := rfl
  obtain ⟨⟨legal, apart⟩, live, drain⟩ := h
  refine ⟨⟨fun f => ?_, fun f g hne => ?_⟩, fun r hmem => ?_, fun f => ?_⟩
  · rw [at']
    split
    · exact hlegal
    · exact legal f
  · rw [at', at']
    split
    next hf =>
      rw [if_neg (fun hg => hne (hf.trans hg.symm))]
      exact fun l hl m hm p => hapart l hl g (fun hg => hne (hf.trans hg.symm)) m hm p
    next hf =>
      split
      · exact fun l hl m hm p hp => hapart m hm f hf l hl p hp.symm
      · exact apart f g hne
  · rw [records] at hmem
    rw [at']
    split
    next he => exact hlive ⟨r, hmem, he⟩
    next => exact live r (hsub r hmem)
  · rw [at', records]
    split
    next hf => exact hf ▸ hdrain
    next hf =>
      intro l hl hp
      obtain ⟨q, hq, he⟩ := drain f l hl hp
      exact ⟨q, hkeep q hq (he ▸ hf), he⟩

/-- A store of what an entry holds. -/
theorem tableLaw_setLive {s : State} {e : EntryIdx} {o : Option LiveEntry} (h : s.tableLaw)
    (hlegal : ∀ l ∈ o, l.ap.size.toNat ≤ 8 ∧ l.ap.page.toNat % pageCount l.ap.size = 0)
    (hapart : ∀ l ∈ o, ∀ f, f ≠ e → ∀ m ∈ s.live f, ∀ p, ¬ (l.ap.holdsPage p ∧ m.ap.holdsPage p))
    (hlive : (∃ q ∈ s.pwq.records, q.entry = e) → ∃ l ∈ o, l.phase = .opened ∨ l.phase = .draining)
    (hdrain : ∀ l ∈ o, l.phase = .draining → ∃ q ∈ s.pwq.records, q.entry = e) : (s.setLive e o).tableLaw :=
  tableLaw_store (rs := s.pwq.records) h (fun _ => id) (fun _ hq _ => hq) hlegal hapart hlive hdrain

/-- An entry stored again with its host range. -/
theorem tableLaw_sameRange {s : State} {e : EntryIdx} {l m : LiveEntry} (h : s.tableLaw) (hl : s.live e = some l)
    (hr : m.ap.page = l.ap.page ∧ m.ap.size = l.ap.size)
    (hlive : (∃ q ∈ s.pwq.records, q.entry = e) → m.phase = .opened ∨ m.phase = .draining)
    (hdrain : m.phase = .draining → ∃ q ∈ s.pwq.records, q.entry = e) : (s.setLive e (some m)).tableLaw := by
  obtain ⟨hpage, hsize⟩ := hr
  have range (p : Nat) : m.ap.holdsPage p ↔ l.ap.holdsPage p := by simp [Aperture.holdsPage, hpage, hsize]
  have ⟨⟨legal, apart⟩, _⟩ := h
  refine tableLaw_setLive h ?_ ?_ (fun hq => ⟨m, rfl, hlive hq⟩) ?_
  · rintro _ ⟨⟩
    rw [hpage, hsize]
    exact legal e l hl
  · rintro _ ⟨⟩ f hf n hn p
    rw [range]
    exact apart e f (Ne.symm hf) l hl n hn p
  · rintro _ ⟨⟩
    exact hdrain

/-- The phase of an entry that a record is in (R26). -/
theorem phase_of_record {s : State} {r : WriteRecord} {l : LiveEntry} (h : s.tableLaw) (hr : r ∈ s.pwq.records)
    (hl : s.live r.entry = some l) : l.phase = .opened ∨ l.phase = .draining := by
  obtain ⟨_, live, _⟩ := h
  obtain ⟨m, hm, hp⟩ := live r hr
  rw [hl] at hm
  exact Option.some.inj hm ▸ hp

theorem Still.keeps_tableLaw {s t : State} (k : Still s t) (h : s.tableLaw) : t.tableLaw := by
  cases k with
  | quiet k =>
    rw [← k] at h
    exact h
  | opened e l he hp hlegal hd =>
    have ⟨_, live, _⟩ := h
    refine tableLaw_setLive h (by rintro _ ⟨⟩; exact hlegal) ?_ ?_ (by rintro _ ⟨⟩; simp [hp])
    · rintro _ ⟨⟩ f _ m hm p
      exact hd f m hm p
    · rintro ⟨q, hq, rfl⟩
      simpa [he] using live q hq
  | closed e hc =>
    refine tableLaw_setLive h nofun nofun ?_ nofun
    rintro ⟨q, hq, rfl⟩
    rcases hc with hc | ⟨l, hl, hp⟩
    · exact absurd rfl (hc q hq)
    · simpa [hp] using phase_of_record h hq hl
  | drained e l hl hq => exact tableLaw_sameRange h hl ⟨rfl, rfl⟩ (fun _ => .inr rfl) (fun _ => hq)
  | resumed e l m hl hp hr => exact tableLaw_sameRange h hl hr (fun _ => .inl hp) (by simp [hp])
  | entry e l m hl hp hr =>
    have ⟨_, _, drain⟩ := h
    refine tableLaw_sameRange h hl hr ?_ (fun hd => drain e l hl (hp ▸ hd))
    rintro ⟨q, hq, rfl⟩
    exact hp ▸ phase_of_record h hq hl
  | editable e v => exact tableLaw_of_same (fun f => live_setEditable s e f v) rfl h
  | _ => exact h

theorem isOpen_iff (s : State) (e : EntryIdx) : s.isOpen e = true ↔ ∃ l ∈ s.live e, l.phase = .opened := by
  unfold State.isOpen
  cases s.live e <;> simp

/-- A record leaves and its entry stays as it is. -/
theorem tableLaw_left {s : State} {r : WriteRecord} {older newer : List WriteRecord} (h : s.tableLaw)
    (hr : s.pwq.records = older ++ r :: newer)
    (hd : ∀ l ∈ s.live r.entry, l.phase = .draining → ∃ q ∈ older ++ newer, q.entry = r.entry) :
    (s.setRecords (older ++ newer)).tableLaw := by
  obtain ⟨apart, live, drain⟩ := h
  refine ⟨apart, fun q hq => live q ?_, fun e l hl hp => ?_⟩
  · rw [hr]
    have : q ∈ older ++ newer := hq
    simp only [List.mem_append, List.mem_cons] at this ⊢
    tauto
  · obtain ⟨q, hq, rfl⟩ := drain e l hl hp
    rw [hr] at hq
    simp only [List.mem_append, List.mem_cons] at hq
    rcases hq with hq | rfl | hq
    · exact ⟨q, List.mem_append_left _ hq, rfl⟩
    · exact hd l hl hp
    · exact ⟨q, List.mem_append_right _ hq, rfl⟩

/-- Records leave with every record of their entry, which is then neither OPEN nor DRAINING for another. -/
theorem tableLaw_emptied {s : State} {rs : List WriteRecord} {e : EntryIdx} {o : Option LiveEntry} (h : s.tableLaw)
    (hsub : ∀ q ∈ rs, q ∈ s.pwq.records) (hkeep : ∀ q ∈ s.pwq.records, q.entry ≠ e → q ∈ rs)
    (hne : ∀ q ∈ rs, q.entry ≠ e) (ho : ∀ l ∈ o, ∃ m ∈ s.live e, l = { m with phase := .suspended }) :
    ((s.setRecords rs).setLive e o).tableLaw := by
  have ⟨⟨legal, apart⟩, _⟩ := h
  refine tableLaw_store h hsub hkeep ?_ ?_ (fun ⟨q, hq, he⟩ => absurd he (hne q hq)) ?_
  · intro l hl
    obtain ⟨m, hm, rfl⟩ := ho l hl
    exact legal e m hm
  · intro l hl f hf n hn p
    obtain ⟨m, hm, rfl⟩ := ho l hl
    exact apart e f (Ne.symm hf) m hm n hn p
  · intro l hl hp
    obtain ⟨m, _, rfl⟩ := ho l hl
    cases hp

theorem Change.keeps_tableLaw {ending : Prop} {s t : State} (k : Change ending s t) (h : s.tableLaw) : t.tableLaw := by
  cases k with
  | still k => exact k.keeps_tableLaw h
  | merged rs hm =>
    refine tableLaw_of_same (s := s) (fun _ => rfl) ?_ h
    have := congrArg (List.map Prod.fst) hm
    simpa [State.setRecords, Function.comp_def] using this
  | appended r n _ _ ho =>
    obtain ⟨apart, live, drain⟩ := h
    refine ⟨apart, fun q hq => ?_, fun e l hl hp => ?_⟩
    · rcases List.mem_append.1 hq with hq | hq
      · exact live q hq
      · obtain ⟨l, hl, hp⟩ := (isOpen_iff s r.entry).1 ho
        rw [List.mem_singleton] at hq
        subst hq
        exact ⟨l, hl, .inl hp⟩
    · obtain ⟨q, hq, he⟩ := drain e l hl hp
      exact ⟨q, List.mem_append_left _ hq, he⟩
  | left r older newer hr _ hd => exact tableLaw_left h hr hd
  | emptied r older newer hr _ hd =>
    refine tableLaw_emptied h (fun q hq => ?_) (fun q hq hne => ?_) hd nofun
    · rw [hr]
      simp only [List.mem_append, List.mem_cons] at hq ⊢
      tauto
    · rw [hr] at hq
      simp only [List.mem_append, List.mem_cons] at hq ⊢
      rcases hq with hq | rfl | hq
      · exact .inl hq
      · exact absurd rfl hne
      · exact .inr hq
  | _ => exact h

theorem Finish.keeps_tableLaw {x : Transfer} {s t : State} (k : Finish x s t) (h : s.tableLaw) : t.tableLaw := by
  cases k with
  | left _ r rest hr hd => exact tableLaw_left (older := []) h hr hd
  | emptied _ r rest hr hd =>
    refine tableLaw_emptied h (fun q hq => ?_) (fun q hq hne => ?_) hd nofun
    · rw [hr]
      exact List.mem_cons_of_mem _ hq
    · rw [hr] at hq
      exact (List.mem_cons.1 hq).resolve_left fun he => hne (by rw [he])
  | failed _ r rest hr =>
    have gone {o : Option LiveEntry} (ho : ∀ l ∈ o, ∃ m ∈ s.live r.entry, l = { m with phase := .suspended }) :
        ((s.setRecords (rest.filter (fun q => !decide (q.entry = r.entry)))).setLive r.entry o).tableLaw := by
      refine tableLaw_emptied h (fun q hq => ?_) (fun q hq hne => ?_) (fun q hq => ?_) ho
      · rw [hr]
        exact List.mem_cons_of_mem _ (List.mem_of_mem_filter hq)
      · rw [hr] at hq
        have tail := (List.mem_cons.1 hq).resolve_left fun he => hne (by rw [he])
        exact List.mem_filter.2 ⟨tail, by simpa using hne⟩
      · simpa using (List.mem_filter.1 hq).2
    have mem : r ∈ s.pwq.records := by simp [hr]
    obtain ⟨_, live, _⟩ := h
    obtain ⟨l, hl, hp⟩ := live r mem
    have at' : (s.setRecords (rest.filter (fun q => !decide (q.entry = r.entry)))).live r.entry = some l := hl
    unfold State.markFailed
    rw [at']
    rcases hp with hp | hp <;> simp only [hp]
    · exact gone (by rintro _ ⟨⟩; exact ⟨l, hl, rfl⟩)
    · exact gone nofun
  | _ => exact h

theorem issue_tableLaw {s : State} (c : Client) (h : s.tableLaw) : (s.issue c).tableLaw := by
  have table : (s.issue c).table = s.table := (congrArg State.table (issue_frame c s) :)
  refine tableLaw_of_same (fun e => by simp [State.live, table]) ?_ h
  unfold State.issue
  cases c with
  | readSlot =>
    simp only [State.account, State.issueRead]
    split
    · split <;> rfl
    · rfl
  | pwq =>
    simp only [State.account, State.issueWrite]
    split
    next hr => simp [State.startTransfer, hr]
    next => rfl
  | inbound => rfl
  | outbound => rfl

/-- Reset entries and an empty queue. -/
theorem tableLaw_of_reset {s : State} (hc : s.table.entries = Vector.replicate 8 Entry.clear)
    (hr : s.pwq.records = []) : s.tableLaw := by
  have he (e : EntryIdx) : s.live e = none := by
    simp [State.live, hc, Entry.clear]
  refine ⟨⟨fun e => ?_, fun e f _ => ?_⟩, fun r hm => ?_, fun e => ?_⟩
  · simp [he e]
  · simp [he e]
  · simp [hr] at hm
  · simp [he e]

theorem tableLaw_kept : Kept State.tableLaw where
  owns h hs := by
    rw [← h] at hs
    exact hs
  issue _ hs := issue_tableLaw _ hs
  change h hs := h.keeps_tableLaw hs
  pins _ _ hs := hs
  powerOn _ := tableLaw_of_reset rfl rfl
  moduleReset _ _ := tableLaw_of_reset rfl rfl
  carryOut _ _ := tableLaw_of_reset rfl rfl
  discarded _ hs := hs
  beat _ _ hs := hs
  delivered _ h hs := delivered_keeps h hs (fun k h => k.keeps_tableLaw h) (fun _ k h => k.keeps_tableLaw h)

/-- Settles O53: a record enters through an OPEN entry only, an entry drains only over its records, and the last of them
empties it. -/
theorem stepKeepsTableAndQueue : Obligations.StepKeepsTableAndQueue :=
  fun _ _ hs h => tableLaw_kept.step h hs

end Sys2Proof.Machine

/-! SUPPORT and PROOFS. Every step keeps a read past ORDER_WAIT behind an empty queue, and no good line holds a queued word
(R45, R53). -/

namespace Sys2Proof.Machine

/-! ### Reads behind writes -/

/-- The laws of a read's order and of the lines. -/
def State.readLaw (s : State) : Prop := s.orderLaw ∧ s.lineLaw

/-- No read waits, and every good line still misses the queued words. -/
theorem readLaw_of_no_read {s : State} (h : s.slot.record = none) (hl : s.lineLaw) : s.readLaw :=
  ⟨by simp [State.orderLaw, h], hl⟩

/-- Records and held writes that leave, and lines struck, keep both laws. -/
theorem readLaw_of_fewer {s t : State} (h : s.readLaw) (hr : t.slot = s.slot)
    (hh : t.pwq.held = .none ∨ t.pwq.held = s.pwq.held) (hn : s.pwq.records = [] → t.pwq.records = [])
    (hw : ∀ q ∈ t.pwq.records, ∃ p ∈ s.pwq.records, p.word = q.word)
    (hl : ∀ i, (t.lineset.line i).holds = none ∨ (t.lineset.line i).holds = (s.lineset.line i).holds) : t.readLaw := by
  obtain ⟨order, good⟩ := h
  refine ⟨fun r hmem => ?_, fun i a ha q hq => ?_⟩
  · rw [hr] at hmem ⊢
    obtain ⟨held, wait⟩ := order r hmem
    exact ⟨hh.elim id fun hh => hh.trans held, fun hp => ⟨hn (wait hp).1, (wait hp).2⟩⟩
  · obtain ⟨p, hp, hword⟩ := hw q hq
    rcases hl i with hl | hl
    · simp [hl] at ha
    · exact hword ▸ good i a (hl ▸ ha) p hp

/-- A read that changes its phase or its kind, past ORDER_WAIT only with nothing before it. -/
theorem readLaw_setRead {s : State} {r q : ReadRecord} (h : s.readLaw) (hr : s.slot.record = some r)
    (hq : q.phase = r.phase ∨ s.pwq.records = [] ∧ s.slot.orphan = none) : (s.setRead (some q)).readLaw := by
  obtain ⟨order, good⟩ := h
  obtain ⟨held, wait⟩ := order r hr
  refine ⟨?_, good⟩
  rintro _ ⟨⟩
  refine ⟨held, fun hp => ?_⟩
  rcases hq with hq | hq
  · exact wait (hq ▸ hp)
  · exact hq

theorem Still.keeps_readLaw {s t : State} (k : Still s t) (h : s.readLaw) : t.readLaw := by
  have self (q : WriteRecord) (hq : q ∈ s.pwq.records) : ∃ p ∈ s.pwq.records, p.word = q.word := ⟨q, hq, rfl⟩
  cases k with
  | quiet k =>
    rw [← k] at h
    exact h
  | lines ls hl => exact readLaw_of_fewer h rfl (.inr rfl) id self hl
  | rewait w q hw =>
    have ⟨order, good⟩ := h
    refine readLaw_of_no_read ?_ good
    by_contra hs
    obtain ⟨r, hr⟩ := Option.ne_none_iff_exists'.1 hs
    simp [(order r hr).1] at hw
  | freeWrite => exact readLaw_of_fewer h rfl (.inl rfl) id self (fun _ => .inr rfl)
  | holdWrite w hh =>
    have ⟨_, good⟩ := h
    exact readLaw_of_no_read ((not_held_iff s).1 hh).2.1 good
  | holdRead r hh _ hp =>
    have ⟨_, good⟩ := h
    refine ⟨?_, good⟩
    rintro _ ⟨⟩
    exact ⟨((not_held_iff s).1 hh).1, by simp [hp]⟩
  | readKind r k hr => exact readLaw_setRead h hr (.inl rfl)
  | _ => exact h

theorem Change.keeps_readLaw {ending : Prop} {s t : State} (k : Change ending s t) (h : s.readLaw) : t.readLaw := by
  cases k with
  | still k => exact k.keeps_readLaw h
  | merged rs hm =>
    refine readLaw_of_fewer h rfl (.inr rfl) (fun hn => ?_) (fun q hq => ?_) (fun _ => .inr rfl)
    · rw [hn] at hm
      exact List.map_eq_nil_iff.1 hm
    · have mem : (q.entry, q.word, q.inFlight) ∈ s.pwq.records.map (fun r => (r.entry, r.word, r.inFlight)) :=
        hm ▸ List.mem_map_of_mem hq
      obtain ⟨p, hp, heq⟩ := List.mem_map.1 mem
      exact ⟨p, hp, by simp_all⟩
  | appended r n _ _ _ hr hl =>
    obtain ⟨order, good⟩ := h
    refine readLaw_of_no_read ?_ fun i a ha q hq => ?_
    · by_contra hs
      obtain ⟨q, hq⟩ := Option.ne_none_iff_exists'.1 hs
      exact hs (hr (order q hq).1)
    · rcases List.mem_append.1 hq with hq | hq
      · exact good i a ha q hq
      · rw [List.mem_singleton] at hq
        exact hq ▸ hl i a ha
  | left r older newer hr =>
    refine readLaw_of_fewer h rfl (.inr rfl) (by simp [hr]) (fun q hq => ⟨q, ?_, rfl⟩) (fun _ => .inr rfl)
    rw [hr]
    exact (List.sublist_cons_self r newer).append_left older |>.mem hq
  | emptied r older newer hr =>
    refine readLaw_of_fewer h rfl (.inr rfl) (by simp [hr]) (fun q hq => ⟨q, ?_, rfl⟩) (fun _ => .inr rfl)
    rw [hr]
    exact (List.sublist_cons_self r newer).append_left older |>.mem hq
  | ordered r hr _ ho => exact readLaw_setRead h hr (.inr ho)
  | readEnded =>
    have ⟨_, good⟩ := h
    exact readLaw_of_no_read rfl good
  | orphaned =>
    have ⟨_, good⟩ := h
    exact readLaw_of_no_read rfl good
  | _ => exact h

theorem Finish.keeps_readLaw {x : Transfer} {s t : State} (k : Finish x s t) (h : s.readLaw) : t.readLaw := by
  have fewer {u : State} {r : WriteRecord} {rest rs : List WriteRecord} (hr : s.pwq.records = r :: rest)
      (hs : ∀ q ∈ rs, q ∈ rest) (hu : { u with table := s.table } = s.setRecords rs) : u.readLaw := by
    have frame := readLaw_of_fewer (t := s.setRecords rs) h rfl (.inr rfl) (by simp [hr])
      (fun q hq => ⟨q, hr ▸ List.mem_cons_of_mem r (hs q hq), rfl⟩) (fun _ => .inr rfl)
    rw [← hu] at frame
    exact frame
  cases k with
  | left _ r rest hr => exact fewer hr (fun _ => id) rfl
  | emptied _ r rest hr => exact fewer hr (fun _ => id) rfl
  | failed _ r rest hr =>
    exact fewer hr (fun _ => List.mem_of_mem_filter)
      (markFailed_frame r.entry (s.setRecords (rest.filter (fun q => !decide (q.entry = r.entry)))))
  | read =>
    have ⟨_, good⟩ := h
    exact readLaw_of_no_read rfl good
  | orphan =>
    obtain ⟨order, good⟩ := h
    exact ⟨fun r hr => ⟨(order r hr).1, fun hp => ⟨((order r hr).2 hp).1, rfl⟩⟩, good⟩
  | _ => exact h

theorem issue_readLaw {s : State} {c : Client} (hc : s.choose = some c) (h : s.readLaw) : (s.issue c).readLaw := by
  have eligible := choose_eligible hc
  obtain ⟨order, good⟩ := h
  cases c with
  | readSlot =>
    cases hr : s.slot.record with
    | none => simp [State.eligible, hr] at eligible
    | some r =>
      have wait : r.phase = .busWait := by simpa [State.eligible, hr] using (Bool.and_eq_true ..).mp eligible |>.2
      obtain ⟨held, behind⟩ := order r hr
      have empty := behind (.inl wait)
      have queue : (s.issue .readSlot).pwq = s.pwq := by
        simp only [State.issue, State.account, State.issueRead, hr]
        split <;> rfl
      have slot : ∃ q, (s.issue .readSlot).slot.record = some q ∧ (s.issue .readSlot).slot.orphan = s.slot.orphan := by
        simp only [State.issue, State.account, State.issueRead, hr]
        split
        · exact ⟨_, rfl, rfl⟩
        · exact ⟨_, rfl, rfl⟩
      obtain ⟨q, hq, horphan⟩ := slot
      refine ⟨fun r hmem => ⟨by rw [queue, held], fun _ => by rw [queue, horphan]; exact empty⟩, fun i a _ p hp => ?_⟩
      simp [queue, empty.1] at hp
  | pwq =>
    cases hr : s.pwq.records with
    | nil => simp [State.eligible, hr] at eligible
    | cons r rest =>
      have issued : (s.issue .pwq).pwq = { s.pwq with records := { r with inFlight := true } :: rest } ∧
          (s.issue .pwq).slot = s.slot ∧ (s.issue .pwq).lineset = s.lineset := by
        simp only [State.issue, State.account, State.issueWrite, hr]
        exact ⟨rfl, rfl, rfl⟩
      obtain ⟨queue, slot, lineset⟩ := issued
      refine readLaw_of_fewer ⟨order, good⟩ slot (.inr (by rw [queue])) (by simp [hr]) (fun q hq => ?_)
        (fun i => .inr (by rw [lineset]))
      rw [queue] at hq
      rcases List.mem_cons.1 hq with rfl | hq
      · exact ⟨r, by simp [hr], rfl⟩
      · exact ⟨q, by simp [hr, hq], rfl⟩
  | inbound => exact ⟨order, good⟩
  | outbound => exact ⟨order, good⟩

theorem readLaw_of_reset {s : State} (hs : s.slot.record = none) (hr : s.pwq.records = []) : s.readLaw :=
  readLaw_of_no_read hs fun i a _ q hq => by simp [hr] at hq

theorem readLaw_kept : Kept State.readLaw where
  owns h hs := by
    rw [← h] at hs
    exact hs
  issue hc hs := issue_readLaw hc hs
  change h hs := h.keeps_readLaw hs
  pins _ _ hs := hs
  powerOn _ := readLaw_of_reset rfl rfl
  moduleReset _ _ := readLaw_of_reset rfl rfl
  carryOut _ _ := readLaw_of_reset rfl rfl
  discarded _ hs := hs
  beat _ _ hs := hs
  delivered _ h hs := delivered_keeps h hs (fun k h => k.keeps_readLaw h) (fun _ k h => k.keeps_readLaw h)

/-- Settles O54: a read passes ORDER_WAIT only behind an empty queue, no record enters while one waits, and a record that
enters strikes the lines over its word. -/
theorem stepKeepsReadOrderAndLines : Obligations.StepKeepsReadOrderAndLines :=
  fun _ _ hs h => readLaw_kept.step h hs

end Sys2Proof.Machine

/-! SUPPORT and PROOFS. Every step keeps the bounds, the ranges of the settings and the emptiness of a DORMANT bridge (R26,
R66, R78, R91, R115, R116, R122, R152, R163, R166, R171). -/

namespace Sys2Proof.Machine

/-! ### Bounds and ranges -/

theorem setNeg_power (g : Settings) (n : NegSetting) (v : Negotiated) :
    (g.setNeg n v).moduleReset = g.moduleReset ∧ (g.setNeg n v).powerLow = g.powerLow := by
  cases n <;> exact ⟨rfl, rfl⟩

/-- The parts of the state that the settings' law looks at. -/
theorem registerLaw_of_same {s t : State} (h : s.registerLaw) (ha : t.master.ackLimit = s.master.ackLimit)
    (ht : t.stream = s.stream) (hp : t.power.state = s.power.state)
    (hs : t.settings.moduleReset = s.settings.moduleReset ∧ t.settings.powerLow = s.settings.powerLow) :
    t.registerLaw := by
  obtain ⟨hm, hl⟩ := hs
  unfold State.registerLaw
  rwa [ha, ht, hp, hm, hl]

/-- The parts of the state that the bounds look at. -/
theorem capacityLaw_of_fewer {s t : State} (h : s.capacityLaw) (hw : t.pwq.records.length ≤ max 16 s.pwq.records.length)
    (hf : t.faults.queue.length ≤ max 4 s.faults.queue.length) (hn : t.events.notes.length ≤ max 4 s.events.notes.length)
    (hb : t.inb.boundaries.length ≤ max 8 s.inb.boundaries.length)
    (hm : t.outb.marks.length ≤ max 8 s.outb.marks.length) (hi : t.inb.fifo.length ≤ max 32 s.inb.fifo.length)
    (hr : t.master.run ≤ max 8 s.master.run) : t.capacityLaw := by
  obtain ⟨h1, h2, h3, h4, h5, h6, h7⟩ := h
  exact ⟨by omega, by omega, by omega, by omega, by omega, by omega, by omega⟩

theorem Still.keeps_capacityLaw {s t : State} (k : Still s t) (h : s.capacityLaw) : t.capacityLaw := by
  cases k with
  | quiet k =>
    rw [← k] at h
    exact h
  | notes l hl =>
    exact capacityLaw_of_fewer h (le_max_right ..) (le_max_right ..) (le_max_iff.2 hl) (le_max_right ..)
      (le_max_right ..) (le_max_right ..) (le_max_right ..)
  | faults l hl =>
    exact capacityLaw_of_fewer h (le_max_right ..) (le_max_iff.2 hl) (le_max_right ..) (le_max_right ..)
      (le_max_right ..) (le_max_right ..) (le_max_right ..)
  | _ => exact h

theorem Still.keeps_registerLaw {s t : State} (k : Still s t) (h : s.registerLaw) : t.registerLaw := by
  cases k with
  | quiet k =>
    rw [← k] at h
    exact h
  | unreset =>
    obtain ⟨ack, in1, in2, out1, out2, _, low⟩ := h
    exact ⟨ack, in1, in2, out1, out2, nofun, low⟩
  | inThreshold v hv =>
    obtain ⟨ack, _, _, out1, out2, starting, low⟩ := h
    exact ⟨ack, hv.1, hv.2, out1, out2, starting, low⟩
  | outThreshold v hv =>
    obtain ⟨ack, in1, in2, _, _, starting, low⟩ := h
    exact ⟨ack, in1, in2, hv.1, hv.2, starting, low⟩
  | ackLimit v hv =>
    obtain ⟨_, rest⟩ := h
    exact ⟨hv, rest⟩
  | proposed n v => exact registerLaw_of_same (t := s.propose n v) h rfl rfl rfl (setNeg_power ..)
  | unproposed n o r => exact registerLaw_of_same (t := s.endProposal n o r) h rfl rfl rfl (setNeg_power ..)
  | accepted p => exact registerLaw_of_same (t := s.setAccepted p.setting p.value) h rfl rfl rfl (setNeg_power ..)
  | _ => exact h

theorem Change.keeps_capacityLaw {ending : Prop} {s t : State} (k : Change ending s t) (h : s.capacityLaw) :
    t.capacityLaw := by
  have fewer {rs : List WriteRecord} (hw : rs.length ≤ max 16 s.pwq.records.length) : (s.setRecords rs).capacityLaw :=
    capacityLaw_of_fewer h hw (le_max_right ..) (le_max_right ..) (le_max_right ..) (le_max_right ..)
      (le_max_right ..) (le_max_right ..)
  cases k with
  | still k => exact k.keeps_capacityLaw h
  | merged rs hm =>
    have length : rs.length = s.pwq.records.length := by simpa using congrArg List.length hm
    exact fewer (length.trans_le (le_max_right ..))
  | appended r n _ hn => exact fewer (rs := s.pwq.records ++ [r]) (by simp; omega)
  | left r older newer hr => exact fewer (by simp [hr])
  | emptied r older newer hr => exact fewer (rs := older ++ newer) (by simp [hr])
  | entered bytes l n hb =>
    refine capacityLaw_of_fewer h (le_max_right ..) (le_max_right ..) (le_max_right ..) (le_max_right ..)
      (le_max_right ..) ?_ (le_max_right ..)
    have depth : Config.fifoDepth = 32 := rfl
    unfold Inbound.room at hb
    simp only [State.setInb, List.length_append]
    omega
  | inbound c hb hf =>
    exact capacityLaw_of_fewer h (le_max_right ..) (le_max_right ..) (le_max_right ..) (le_max_iff.2 hb)
      (le_max_right ..) (hf.trans (le_max_right ..)) (le_max_right ..)
  | outbound c hm =>
    exact capacityLaw_of_fewer h (le_max_right ..) (le_max_right ..) (le_max_right ..) (le_max_right ..)
      (le_max_iff.2 hm) (le_max_right ..) (le_max_right ..)
  | _ => exact h

theorem Change.keeps_registerLaw {ending : Prop} {s t : State} (k : Change ending s t) (h : s.registerLaw) :
    t.registerLaw := by
  cases k with
  | still k => exact k.keeps_registerLaw h
  | power p low _ hr hl =>
    obtain ⟨ack, in1, in2, out1, out2, starting, quiet⟩ := h
    refine ⟨ack, in1, in2, out1, out2, fun hm => hr hm (starting hm), fun hp => ?_⟩
    rcases hl hp with hl | ⟨hs, hl⟩
    · exact hl
    · exact hl.trans (quiet hs)
  | _ => exact h

theorem Finish.keeps_capacityLaw {x : Transfer} {s t : State} (k : Finish x s t) (h : s.capacityLaw) :
    t.capacityLaw := by
  have fewer {u : State} {rs : List WriteRecord} (hw : rs.length ≤ max 16 s.pwq.records.length)
      (hu : { u with table := s.table } = s.setRecords rs) : u.capacityLaw := by
    have law : (s.setRecords rs).capacityLaw := capacityLaw_of_fewer h hw (le_max_right ..) (le_max_right ..)
      (le_max_right ..) (le_max_right ..) (le_max_right ..) (le_max_right ..)
    rw [← hu] at law
    exact law
  cases k with
  | left _ r rest hr => exact fewer (by simp [hr]) rfl
  | emptied _ r rest hr => exact fewer (rs := rest) (by simp [hr]) rfl
  | failed _ r rest hr =>
    have length := List.length_filter_le (fun q : WriteRecord => !decide (q.entry = r.entry)) rest
    exact fewer (by simp only [hr, List.length_cons]; omega)
      (markFailed_frame r.entry (s.setRecords (rest.filter (fun q => !decide (q.entry = r.entry)))))
  | moved =>
    exact capacityLaw_of_fewer h (le_max_right ..) (le_max_right ..) (le_max_right ..)
      (by simp [State.setInb, Inbound.moved, reachBoundaries]) (le_max_right ..)
      (by simp [State.setInb, Inbound.moved]) (le_max_right ..)
  | _ => exact h

theorem Finish.keeps_registerLaw {x : Transfer} {s t : State} (k : Finish x s t) (h : s.registerLaw) :
    t.registerLaw := by
  cases k with
  | failed _ r rest hr =>
    have law : (s.setRecords (rest.filter (fun q => !decide (q.entry = r.entry)))).registerLaw := h
    rw [← markFailed_frame r.entry (s.setRecords _)] at law
    exact law
  | _ => exact h

/-! ### A DORMANT bridge (R166) -/

theorem dormantLaw_of_awake {s : State} (h : s.power.state ≠ .dormant) : s.dormantLaw := fun hd => absurd hd h

theorem awake_of_transfer {s : State} {x : Transfer} (h : s.dormantLaw) (hx : s.master.transfer = some x) :
    s.power.state ≠ .dormant := by
  intro hd
  obtain ⟨_, _, _, _, none⟩ := h hd
  simp [none] at hx

theorem Still.keeps_dormantLaw {s t : State} (k : Still s t) (h : s.dormantLaw) : t.dormantLaw := by
  cases k with
  | quiet k =>
    rw [← k] at h
    exact h
  | holdRead r _ ha => exact dormantLaw_of_awake (by simp [State.setRead, State.holdHost, ha.1])
  | readKind r k hr =>
    intro hd
    obtain ⟨_, hn, _⟩ := h hd
    simp [hn] at hr
  | _ => exact h

theorem Change.keeps_dormantLaw {s t : State} (k : Change False s t) (h : s.dormantLaw) : t.dormantLaw := by
  cases k with
  | still k => exact k.keeps_dormantLaw h
  | power p low _ _ _ hd =>
    intro hp
    rcases hd hp with hs | hs
    · exact h hs
    · exact (drained_iff s).1 hs
  | merged rs hm =>
    intro hd
    obtain ⟨hr, rest⟩ := h hd
    rw [hr] at hm
    exact ⟨List.map_eq_nil_iff.1 hm, rest⟩
  | appended r n _ _ _ _ _ hd => exact dormantLaw_of_awake hd
  | left r older newer hr =>
    intro hd
    obtain ⟨hn, _⟩ := h hd
    simp [hn] at hr
  | emptied r older newer hr =>
    intro hd
    obtain ⟨hn, _⟩ := h hd
    simp [hn] at hr
  | ordered r hr =>
    intro hd
    obtain ⟨_, hn, _⟩ := h hd
    simp [hn] at hr
  | readEnded r a _ hr =>
    intro hd
    obtain ⟨_, hn, _⟩ := h hd
    simp [hn] at hr
  | orphaned r o a _ hr =>
    intro hd
    obtain ⟨_, hn, _⟩ := h hd
    simp [hn] at hr
  | entered bytes l n _ hd => exact dormantLaw_of_awake hd
  | inbound c _ hf =>
    intro hd
    obtain ⟨hr, hs, ho, hi, hx⟩ := h hd
    refine ⟨hr, hs, ho, ?_, hx⟩
    simpa [hi] using hf
  | _ => exact h

/-- No client of a DORMANT bridge is eligible. -/
theorem eligible_of_dormant {s : State} (h : s.dormantLaw) (hd : s.power.state = .dormant) (c : Client) :
    s.eligible c = false := by
  obtain ⟨hr, hs, _, hi, _⟩ := h hd
  cases c <;> simp [State.eligible, hr, hs, hi, hd, Inbound.moveReady]

/-! ### Every step -/

/-- The bounds, the ranges and the emptiness of a DORMANT bridge. -/
def State.boundsLaw (s : State) : Prop := s.capacityLaw ∧ s.registerLaw ∧ s.dormantLaw

theorem issue_master (c : Client) (s : State) :
    (s.issue c).master.ackLimit = s.master.ackLimit ∧ (s.issue c).master.run = (s.account c).master.run := by
  unfold State.issue
  cases c with
  | readSlot =>
    simp only [State.issueRead]
    split
    · split <;> exact ⟨rfl, rfl⟩
    · exact ⟨rfl, rfl⟩
  | pwq =>
    simp only [State.issueWrite]
    split <;> exact ⟨rfl, rfl⟩
  | inbound => exact ⟨rfl, rfl⟩
  | outbound => exact ⟨rfl, rfl⟩

/-- The aperture run count stops at its limit (R78). -/
theorem account_run {s : State} {c : Client} (hc : s.choose = some c) : (s.account c).master.run ≤ 8 := by
  have stop (ha : c = .readSlot ∨ c = .pwq) : (if s.streamEligible then s.master.run + 1 else 0) ≤ 8 := by
    split
    next hs =>
      have below : ¬ Config.runLimit ≤ s.master.run := by
        intro hl
        have winner : c = s.streamWinner := by simpa [State.choose, hl, hs, eq_comm] using hc
        unfold State.streamWinner at winner
        rw [winner] at ha
        split at ha
        · split at ha <;> simp at ha
        · split at ha <;> simp at ha
      have limit : Config.runLimit = 8 := rfl
      omega
    next => exact Nat.zero_le _
  cases c with
  | readSlot => exact stop (.inl rfl)
  | pwq => exact stop (.inr rfl)
  | inbound => exact Nat.zero_le _
  | outbound => exact Nat.zero_le _

theorem issue_boundsLaw {s : State} {c : Client} (hc : s.choose = some c) (h : s.boundsLaw) :
    (s.issue c).boundsLaw := by
  obtain ⟨capacity, register, dormant⟩ := h
  have frame := issue_frame c s
  obtain ⟨ack, run⟩ := issue_master c s
  have power : (s.issue c).power = s.power := (congrArg State.power frame :)
  have settings : (s.issue c).settings = s.settings := (congrArg State.settings frame :)
  have inb : (s.issue c).inb = s.inb := (congrArg State.inb frame :)
  have faults : (s.issue c).faults = s.faults := (congrArg State.faults frame :)
  have events : (s.issue c).events = s.events := (congrArg State.events frame :)
  have lists : (s.issue c).pwq.records.length = s.pwq.records.length ∧ (s.issue c).outb.marks = s.outb.marks := by
    unfold State.issue
    cases c with
    | readSlot =>
      simp only [State.account, State.issueRead]
      split
      · split <;> exact ⟨rfl, rfl⟩
      · exact ⟨rfl, rfl⟩
    | pwq =>
      simp only [State.account, State.issueWrite]
      split
      next hr => simp [State.startTransfer, hr]
      next => exact ⟨rfl, rfl⟩
    | inbound => exact ⟨rfl, rfl⟩
    | outbound => exact ⟨rfl, rfl⟩
  refine ⟨capacityLaw_of_fewer capacity (by simp [lists.1]) (by simp [faults]) (by simp [events]) (by simp [inb])
      (by simp [lists.2]) (by simp [inb]) (run ▸ (account_run hc).trans (le_max_left ..)),
    registerLaw_of_same register ack (congrArg State.stream frame :) (by rw [power]) (by rw [settings]; exact ⟨rfl, rfl⟩),
    dormantLaw_of_awake ?_⟩
  rw [power]
  intro hd
  simpa [eligible_of_dormant dormant hd c] using choose_eligible hc

theorem capacityLaw_of_empty {s : State} (hw : s.pwq.records = []) (hf : s.faults.queue = [])
    (hn : s.events.notes.length ≤ 4) (hb : s.inb.boundaries = []) (hm : s.outb.marks = []) (hi : s.inb.fifo = [])
    (hr : s.master.run = 0) : s.capacityLaw := by
  simp [State.capacityLaw, hw, hf, hn, hb, hm, hi, hr]

theorem releaseIfAsked_frame (s : State) :
    { s.releaseIfAsked with master := { s.releaseIfAsked.master with
        own := s.master.own, releaseMark := s.master.releaseMark } } = s := by
  unfold State.releaseIfAsked
  split <;> rfl

theorem resetMaster_arbiter (s : State) :
    s.resetMaster.master.ackLimit = Config.resetAckLimit ∧ s.resetMaster.master.run = 0 := by
  unfold State.resetMaster
  simp only
  split <;> exact ⟨rfl, rfl⟩

theorem boundsLaw_kept : Kept State.boundsLaw where
  owns h hs := by
    rw [← h] at hs
    exact hs
  issue hc hs := issue_boundsLaw hc hs
  change h hs :=
    have ⟨capacity, register, dormant⟩ := hs
    ⟨h.keeps_capacityLaw capacity, h.keeps_registerLaw register, h.keeps_dormantLaw dormant⟩
  pins _ _ hs := hs
  powerOn _ :=
    ⟨capacityLaw_of_empty rfl rfl (Nat.zero_le _) rfl rfl rfl rfl, 
      ⟨show Master.reset.ackLimit ≠ 0#8 by decide, show 2 ≤ StreamRegs.reset.inThreshold.toNat by decide,
        show StreamRegs.reset.inThreshold.toNat ≤ 32 by decide, show 1 ≤ StreamRegs.reset.outThreshold.toNat by decide,
        show StreamRegs.reset.outThreshold.toNat ≤ 32 by decide, nofun, by rintro (h | h) <;> cases h⟩,
      dormantLaw_of_awake nofun⟩
  moduleReset {s} _ hs := by
    obtain ⟨_, ⟨_, in1, in2, out1, out2, _⟩, _⟩ := hs
    obtain ⟨ack, run⟩ := resetMaster_arbiter s
    refine ⟨capacityLaw_of_empty rfl rfl (Nat.zero_le _) rfl rfl rfl run, ⟨?_, in1, in2, out1, out2, fun _ => rfl, ?_⟩,
      dormantLaw_of_awake nofun⟩
    · exact ack ▸ by decide
    · rintro (h | h) <;> cases h
  carryOut {s} hx hs := by
    obtain ⟨⟨_, _, notes, _⟩, register, _⟩ := hs
    have frame := releaseIfAsked_frame s
    have ack : s.releaseIfAsked.master.ackLimit = s.master.ackLimit :=
      (congrArg (fun t : State => t.master.ackLimit) frame :)
    have notes' : s.carryOut.events.notes = s.events.notes :=
      (congrArg (fun t : State => t.events.notes) frame :)
    have kept : s.carryOut.settings = s.settings := (congrArg State.settings frame :)
    refine ⟨capacityLaw_of_empty rfl rfl (notes' ▸ notes) rfl rfl rfl rfl,
      registerLaw_of_same (t := { s.carryOut with stream := s.stream }) register ack rfl rfl (by rw [kept]; exact ⟨rfl, rfl⟩), fun _ => ⟨rfl, rfl, rfl, rfl, (carryOut_transfer s).trans hx⟩⟩
  discarded {s _} hx hs :=
    have ⟨capacity, register, dormant⟩ := hs
    ⟨capacity, register, dormantLaw_of_awake (awake_of_transfer (s := s) dormant hx)⟩
  beat {s _} _ hx hs :=
    have ⟨capacity, register, dormant⟩ := hs
    ⟨capacity, register, dormantLaw_of_awake (awake_of_transfer (s := s) dormant hx)⟩
  delivered hx h hs := by
    obtain ⟨capacity, register, dormant⟩ := hs
    obtain ⟨capacity', register'⟩ := delivered_keeps (P := fun v => v.capacityLaw ∧ v.registerLaw) h ⟨capacity, register⟩
      (fun k h => ⟨k.keeps_capacityLaw h.1, k.keeps_registerLaw h.2⟩)
      (fun _ k h => ⟨k.keeps_capacityLaw h.1, k.keeps_registerLaw h.2⟩)
    exact ⟨capacity', register', dormantLaw_of_awake (h.moment.2 ▸ awake_of_transfer dormant hx)⟩

/-- Settles O52: every list is added to only below its bound, every setting is stored in its range, and only a drained
bridge goes DORMANT, where nothing is let in. -/
theorem stepKeepsBounds : Obligations.StepKeepsBounds :=
  fun _ _ hs h => boundsLaw_kept.step h hs

end Sys2Proof.Machine

/-! SUPPORT and PROOFS. Every step keeps the ownership state and the lines of the bus in agreement, and leaves the bus
settled (R68, R69, R70, R72, R73, R74). -/

namespace Sys2Proof.Machine

/-! ### The ownership state and the lines -/

/-- The parts of the state that the law of the bus looks at. -/
theorem busLaw_of_same {s t : State} (h : s.busLaw) (hp : t.pins.pon = s.pins.pon) (hg : t.pins.lbgnt = s.pins.lbgnt)
    (hy : t.yieldAsked = s.yieldAsked) (ho : t.master.own = s.master.own)
    (hx : t.master.transfer.isSome = s.master.transfer.isSome) : t.busLaw := by
  have none_iff : t.master.transfer = none ↔ s.master.transfer = none := by
    rw [← Option.not_isSome_iff_eq_none, hx, Option.not_isSome_iff_eq_none]
  unfold State.busLaw at h ⊢
  rwa [hp, hg, hy, ho, hx, none_iff]

theorem SameBus.keeps_busLaw {s t : State} (k : SameBus s t) (h : s.busLaw) : t.busLaw :=
  busLaw_of_same h k.pon k.lbgnt k.yieldAsked k.own (by rw [k.transfer])

/-- A bus that is not owned, with no transfer in flight and, in a hold, with LBGNT and without an honoured LYLD. -/
theorem busLaw_of_unowned {s : State} (hx : s.master.transfer = none) (hp : s.pins.pon = true → s.master.own = .released)
    (ho : s.master.own = .released ∨ (∃ n p, s.master.own = .requesting n p) ∨
      ∃ t, s.master.own = .holding t ∧ s.pins.lbgnt = true ∧ s.yieldAsked = false) : s.busLaw := by
  refine ⟨fun h => ⟨hp h, hx⟩, ?_, fun h => ?_, fun t h => ?_, fun h => ?_⟩ <;>
    rcases ho with ho | ⟨n, p, ho⟩ | ⟨t, ho, hl⟩ <;> simp_all

/-- A bus that is owned, with a transfer in flight and the lines that its state says. -/
theorem busLaw_of_owned {s : State} (hx : s.master.transfer.isSome = true) (hp : s.pins.pon = false)
    (ho : s.master.own = .transferring ∧ s.pins.lbgnt = true ∧ s.yieldAsked = false ∨
      s.master.own = .yielding .withdrawn ∧ s.pins.lbgnt = false ∧ s.yieldAsked = false ∨
      s.master.own = .yielding .yielded) : s.busLaw := by
  refine ⟨by simp [hp], ?_, fun h => ?_, fun t h => ?_, fun h => ?_⟩ <;>
    rcases ho with ⟨ho, hl⟩ | ⟨ho, hl⟩ | ho <;> simp_all

/-- An issue leaves the lines and the honour of LYLD. -/
theorem issue_lines (c : Client) (s : State) :
    (s.issue c).pins = s.pins ∧ (s.issue c).yieldAsked = s.yieldAsked := by
  have pins : (s.issue c).pins = s.pins := (congrArg State.pins (issue_frame c s) :)
  have honor : (s.issue c).master.yieldHonor = s.master.yieldHonor := by
    unfold State.issue
    cases c with
    | readSlot =>
      simp only [State.account, State.issueRead]
      split
      · split <;> rfl
      · rfl
    | pwq =>
      simp only [State.account, State.issueWrite]
      split <;> rfl
    | inbound => rfl
    | outbound => rfl
  exact ⟨pins, by simp [State.yieldAsked, pins, honor]⟩

theorem issue_isSome {s : State} {c : Client} (hc : s.choose = some c) : (s.issue c).master.transfer.isSome = true := by
  obtain ⟨x, hx, _⟩ := issue_transfer (choose_eligible hc)
  simp [hx]

/-- The issue of the chosen client's transfer, with the ownership state that its lines allow. -/
theorem issue_busLaw {s : State} {c : Client} (hc : s.choose = some c) (hp : s.pins.pon = false)
    (ho : s.master.own = .transferring ∧ s.pins.lbgnt = true ∧ s.yieldAsked = false ∨
      s.master.own = .yielding .yielded) : (s.issue c).busLaw := by
  obtain ⟨pins, asked⟩ := issue_lines c s
  refine busLaw_of_owned (issue_isSome hc) (by rw [pins]; exact hp) ?_
  rw [pins, asked, issue_own]
  exact ho.imp_right .inr

theorem takeGrant_busLaw {s : State} (hx : s.master.transfer = none) (hp : s.pins.pon = false)
    (hl : s.pins.lbgnt = true) : s.takeGrant.busLaw := by
  unfold State.takeGrant
  split
  next c hc =>
    cases ha : s.yieldAsked with
    | true => exact issue_busLaw (s := s.setOwn (.yielding .yielded)) hc hp (.inr rfl)
    | false => exact issue_busLaw (s := s.setOwn .transferring) hc hp (.inl ⟨rfl, hl, ha⟩)
  next => exact busLaw_of_unowned hx (fun _ => rfl) (.inl rfl)

theorem transfer_none_of_unowned {s : State} (h : s.busLaw) (ht : s.master.own ≠ .transferring)
    (hy : ∀ w, s.master.own ≠ .yielding w) : s.master.transfer = none := by
  obtain ⟨_, some, _⟩ := h
  rw [← Option.not_isSome_iff_eq_none, some]
  rintro (h | ⟨w, h⟩)
  · exact ht h
  · exact hy w h

theorem poll_busLaw {s : State} (h : s.busLaw) (hp : s.pins.pon = false) : s.poll.busLaw := by
  have ⟨_, _, _, hold, _⟩ := h
  unfold State.poll
  split
  next ho =>
    have hx := transfer_none_of_unowned h (by simp [ho]) (by simp [ho])
    split
    · split
      next hl => exact takeGrant_busLaw (s := s.enterRequesting) hx hp hl
      next =>
        exact busLaw_of_unowned (s := s.enterRequesting) hx (fun h => absurd (hp.symm.trans h) nofun)
          (.inr (.inl ⟨_, _, rfl⟩))
    · exact h
  next ho =>
    have hx := transfer_none_of_unowned h (by simp [ho]) (by simp [ho])
    split
    · split
      next hl => exact takeGrant_busLaw hx hp hl
      next => exact h
    · exact busLaw_of_unowned hx (fun _ => rfl) (.inl rfl)
  next t ho =>
    split
    next c hc => exact issue_busLaw (s := s.setOwn .transferring) hc hp (.inl ⟨rfl, hold t ho⟩)
    next => exact h
  next => exact h
  next => exact h

/-! ### The settled bus -/

theorem settledLaw_of_owned {s : State} (hp : s.pins.pon = false)
    (ho : s.master.own = .transferring ∨ ∃ w, s.master.own = .yielding w) : s.settledLaw := by
  refine ⟨by simp [hp], fun h => ?_, fun n p h => ?_, fun t h => ?_⟩ <;> rcases ho with ho | ⟨w, ho⟩ <;> simp_all

/-- After a release no request begins before a tick has passed (R69). -/
theorem settledLaw_of_release {s : State} (hp : s.pins.pon = false) : s.release.settledLaw :=
  ⟨by simp [State.release, hp], fun _ h => by simp [State.release, State.markPassed] at h, nofun, nofun⟩

theorem settledLaw_of_idle {s : State} (he : s.anyEligible = false)
    (ho : s.master.own = .released ∨ s.pins.pon = false ∧ ∃ t, s.master.own = .holding t) : s.settledLaw := by
  refine ⟨fun hp => ⟨?_, he⟩, by simp [he], fun n p h => ?_, fun _ _ => he⟩ <;>
    rcases ho with ho | ⟨hp, t, ho⟩ <;> simp_all

theorem issue_settledLaw {s : State} (c : Client) (hp : s.pins.pon = false)
    (ho : s.master.own = .transferring ∨ ∃ w, s.master.own = .yielding w) : (s.issue c).settledLaw := by
  refine settledLaw_of_owned ?_ ?_
  · rw [(issue_lines c s).1]
    exact hp
  · rw [issue_own]
    exact ho

theorem takeGrant_settledLaw {s : State} (hp : s.pins.pon = false) : s.takeGrant.settledLaw := by
  unfold State.takeGrant
  split
  · refine issue_settledLaw _ hp ?_
    show (if s.yieldAsked then Ownership.yielding .yielded else .transferring) = _ ∨ _
    split
    · exact .inr ⟨_, rfl⟩
    · exact .inl rfl
  · exact settledLaw_of_release hp

/-- The tests leave the bus settled whatever they find. -/
theorem poll_settledLaw {s : State} (hp : s.pins.pon = false) : s.poll.settledLaw := by
  have requesting {u : State} {n : Nat} {p : Patience} (hu : u.pins.pon = false) (ho : u.master.own = .requesting n p)
      (he : u.anyEligible = true) (hl : ¬ u.pins.lbgnt = true) : u.settledLaw := by
    refine ⟨by simp [hu], by simp [ho], fun _ _ _ => ⟨he, by simpa using hl⟩, by simp [ho]⟩
  unfold State.poll
  split
  next ho =>
    split
    next ha =>
      split
      · exact takeGrant_settledLaw (s := s.enterRequesting) hp
      next hl =>
        simp only [Bool.and_eq_true] at ha
        exact requesting (u := s.enterRequesting) hp rfl ha.1.1 hl
    next ha =>
      refine ⟨by simp [hp], fun _ hn => ha ?_, by simp [ho], by simp [ho]⟩
      obtain ⟨he, hy, hm⟩ := hn
      simp [he, hy, hm]
  next n p ho =>
    split
    next he =>
      split
      · exact takeGrant_settledLaw hp
      next hl => exact requesting hp ho he hl
    · exact settledLaw_of_release hp
  next t ho =>
    split
    · exact issue_settledLaw _ hp (.inl rfl)
    next hc =>
      refine settledLaw_of_idle ?_ (.inr ⟨hp, t, ho⟩)
      by_contra he
      have chosen := choose_isSome (s := s) (by simpa using he)
      rw [hc] at chosen
      cases chosen
  next ho => exact settledLaw_of_owned hp (.inl ho)
  next w ho => exact settledLaw_of_owned hp (.inr ⟨w, ho⟩)

/-! ### Moves of the bus -/

/-- Where a move of the bus may lead: an owned bus stays owned, one that is not stays so. -/
def State.movesTo (s u : State) : Prop :=
  match s.master.own with
  | .released => u.master.own = .released
  | .requesting _ _ => ∃ n p, u.master.own = .requesting n p
  | .holding _ =>
    u.master.own = .released ∨ ∃ t, u.master.own = .holding t ∧ u.pins.lbgnt = true ∧ u.yieldAsked = false
  | .transferring | .yielding _ =>
    u.master.own = .transferring ∧ u.pins.lbgnt = true ∧ u.yieldAsked = false ∨
      u.master.own = .yielding .withdrawn ∧ u.pins.lbgnt = false ∧ u.yieldAsked = false ∨
      u.master.own = .yielding .yielded

theorem busLaw_of_move {s u : State} (h : s.busLaw) (hp : u.pins.pon = false) (hx : u.master.transfer = s.master.transfer)
    (hm : s.movesTo u) : u.busLaw := by
  have pon : u.pins.pon = true → u.master.own = .released := by simp [hp]
  have ⟨_, carried, _⟩ := h
  unfold State.movesTo at hm
  split at hm
  next ho => exact busLaw_of_unowned (hx.trans (transfer_none_of_unowned h (by simp [ho]) (by simp [ho]))) pon (.inl hm)
  next ho =>
    exact busLaw_of_unowned (hx.trans (transfer_none_of_unowned h (by simp [ho]) (by simp [ho]))) pon (.inr (.inl hm))
  next ho =>
    exact busLaw_of_unowned (hx.trans (transfer_none_of_unowned h (by simp [ho]) (by simp [ho]))) pon
      (hm.elim .inl fun hm => .inr (.inr hm))
  next ho => exact busLaw_of_owned (hx ▸ carried.2 (.inl ho)) hp hm
  next ho => exact busLaw_of_owned (hx ▸ carried.2 (.inr ⟨_, ho⟩)) hp hm

/-- LBGNT asserted gives a withdrawn grant back (R74). -/
theorem regainGrant_moves {s : State} (h : s.busLaw) : s.movesTo (s.grantLevel true).regainGrant := by
  obtain ⟨_, _, plain, hold, withdrawn⟩ := h
  unfold State.movesTo State.regainGrant
  have level : (s.grantLevel true).master.own = s.master.own := rfl
  rw [level]
  cases ho : s.master.own with
  | released => exact ho
  | requesting n p => exact ⟨n, p, ho⟩
  | holding t => exact .inr ⟨t, ho, rfl, (hold t ho).2⟩
  | transferring => exact .inl ⟨ho, rfl, (plain ho).2⟩
  | yielding w =>
    cases w with
    | yielded => exact .inr (.inr ho)
    | withdrawn => exact .inl ⟨rfl, rfl, (withdrawn ho).2⟩

/-- A withdrawal of LBGNT ends a hold and marks a transfer the last (R74). -/
theorem loseGrant_moves {s : State} (h : s.busLaw) : s.movesTo (s.grantLevel false).loseGrant := by
  obtain ⟨_, _, plain, hold, withdrawn⟩ := h
  unfold State.movesTo State.loseGrant
  have level : (s.grantLevel false).master.own = s.master.own := rfl
  rw [level]
  cases ho : s.master.own with
  | released => exact ho
  | requesting n p => exact ⟨n, p, ho⟩
  | holding t => exact .inl rfl
  | transferring => exact .inr (.inl ⟨rfl, rfl, (plain ho).2⟩)
  | yielding w =>
    cases w with
    | yielded => exact .inr (.inr ho)
    | withdrawn => exact .inr (.inl ⟨ho, rfl, (withdrawn ho).2⟩)

/-- LYLD asserted, or honoured from now on, ends a hold and marks a transfer the last (R73). -/
theorem yieldBus_moves {s u : State} (h : s.busLaw) (ho : u.master.own = s.master.own)
    (hl : u.pins.lbgnt = s.pins.lbgnt) : s.movesTo u.yieldBus := by
  obtain ⟨_, _, plain, hold, withdrawn⟩ := h
  have stands (ha : ¬ u.yieldAsked = true) : s.movesTo u := by
    have free : u.yieldAsked = false := by simpa using ha
    unfold State.movesTo
    rw [ho, hl, free]
    cases hs : s.master.own with
    | released => rfl
    | requesting n p => exact ⟨n, p, rfl⟩
    | holding t => exact .inr ⟨t, rfl, (hold t hs).1, rfl⟩
    | transferring => exact .inl ⟨rfl, (plain hs).1, rfl⟩
    | yielding w =>
      cases w with
      | yielded => exact .inr (.inr rfl)
      | withdrawn => exact .inr (.inl ⟨rfl, (withdrawn hs).1, rfl⟩)
  unfold State.yieldBus
  split
  · unfold State.movesTo
    rw [← ho]
    cases hs : u.master.own with
    | released => exact hs
    | requesting n p => exact ⟨n, p, hs⟩
    | holding t => exact .inl rfl
    | transferring => exact .inr (.inr rfl)
    | yielding w =>
      cases w with
      | yielded => exact .inr (.inr hs)
      | withdrawn => exact .inr (.inr rfl)
  next ha => exact stands ha

/-- An LYLD that is not honoured any more leaves the bus plainly owned, or its grant withdrawn (R73). -/
theorem unyield_moves {s u : State} (h : s.busLaw) (ho : u.master.own = s.master.own)
    (hl : u.pins.lbgnt = s.pins.lbgnt) (ha : u.yieldAsked = false) : s.movesTo u.unyield := by
  obtain ⟨_, _, plain, hold, withdrawn⟩ := h
  unfold State.movesTo State.unyield
  rw [ho]
  cases hs : s.master.own with
  | released => exact ho.trans hs
  | requesting n p => exact ⟨n, p, ho.trans hs⟩
  | holding t => exact .inr ⟨t, ho.trans hs, hl.trans (hold t hs).1, ha⟩
  | transferring => exact .inl ⟨ho.trans hs, hl.trans (plain hs).1, ha⟩
  | yielding w =>
    cases w with
    | withdrawn => exact .inr (.inl ⟨ho.trans hs, hl.trans (withdrawn hs).1, ha⟩)
    | yielded =>
      simp only
      cases hg : u.pins.lbgnt with
      | true => exact .inl ⟨rfl, hg, ha⟩
      | false => exact .inr (.inl ⟨rfl, hg, ha⟩)

/-- A request that stands. -/
theorem settledLaw_of_request {s u : State} {n m : Nat} {p q : Patience} (h : s.settledLaw) (hp : u.pins.pon = false)
    (he : u.anyEligible = s.anyEligible) (hl : u.pins.lbgnt = true → s.pins.lbgnt = true)
    (hs : s.master.own = .requesting n p) (hu : u.master.own = .requesting m q) : u.settledLaw := by
  obtain ⟨_, _, requesting, _⟩ := h
  obtain ⟨eligible, level⟩ := requesting n p hs
  have free : u.pins.lbgnt = false := by
    by_contra hg
    simp [hl (by simpa using hg)] at level
  exact ⟨by simp [hp], by simp [hu], fun _ _ _ => ⟨he.trans eligible, free⟩, by simp [hu]⟩

/-- A bus on which nothing begins and nothing ends stays settled. -/
theorem settledLaw_of_stand {s u : State} (h : s.settledLaw) (hp : u.pins.pon = false)
    (he : u.anyEligible = s.anyEligible) (hm : u.markPassed = s.markPassed)
    (hy : u.yieldAsked = false → s.yieldAsked = false) (hl : u.pins.lbgnt = true → s.pins.lbgnt = true)
    (ho : u.master.own = s.master.own) : u.settledLaw := by
  have ⟨_, released, _, holding⟩ := h
  cases hs : s.master.own with
  | released =>
    have hu := ho.trans hs
    refine ⟨by simp [hp], fun _ hn => released hs ?_, by simp [hu], by simp [hu]⟩
    exact ⟨he ▸ hn.1, hy hn.2.1, hm ▸ hn.2.2⟩
  | requesting n p => exact settledLaw_of_request h hp he hl hs (ho.trans hs)
  | holding t => exact settledLaw_of_idle (he.trans (holding t hs)) (.inr ⟨hp, t, ho.trans hs⟩)
  | transferring => exact settledLaw_of_owned hp (.inl (ho.trans hs))
  | yielding w => exact settledLaw_of_owned hp (.inr ⟨w, ho.trans hs⟩)

theorem loseGrant_settledLaw {s : State} (h : s.settledLaw) (hp : s.pins.pon = false) :
    ((s.grantLevel false).loseGrant).settledLaw := by
  have stands : (s.grantLevel false).settledLaw := settledLaw_of_stand h hp rfl rfl id nofun rfl
  unfold State.loseGrant
  split
  · exact settledLaw_of_owned hp (.inr ⟨_, rfl⟩)
  · exact settledLaw_of_release hp
  all_goals exact stands

theorem yieldBus_settledLaw {s u : State} (h : s.settledLaw) (hp : u.pins.pon = false)
    (he : u.anyEligible = s.anyEligible) (hm : u.markPassed = s.markPassed) (hl : u.pins.lbgnt = s.pins.lbgnt)
    (ho : u.master.own = s.master.own) (hy : u.yieldAsked = false → s.yieldAsked = false) : u.yieldBus.settledLaw := by
  have stands : u.settledLaw :=
    settledLaw_of_stand h hp he hm hy (fun h => hl ▸ h) ho
  unfold State.yieldBus
  split
  · split
    · exact settledLaw_of_owned hp (.inr ⟨_, rfl⟩)
    · exact settledLaw_of_release hp
    · exact settledLaw_of_owned hp (.inr ⟨_, rfl⟩)
    all_goals exact stands
  · exact stands

/-- A change that keeps the ownership state, or a request, and asks for no yield. -/
theorem movesTo_of_own {s u : State} (h : s.busLaw) (hl : u.pins.lbgnt = s.pins.lbgnt)
    (ha : u.yieldAsked = true → s.yieldAsked = true)
    (ho : u.master.own = s.master.own ∨ ∃ n p m q, s.master.own = .requesting n p ∧ u.master.own = .requesting m q) :
    s.movesTo u := by
  obtain ⟨_, _, plain, hold, withdrawn⟩ := h
  have free (hs : s.yieldAsked = false) : u.yieldAsked = false := by
    by_contra hu
    simp [ha (by simpa using hu)] at hs
  unfold State.movesTo
  rcases ho with ho | ⟨n, p, m, q, hs, hu⟩
  · rw [ho, hl]
    cases hs : s.master.own with
    | released => rfl
    | requesting n p => exact ⟨n, p, rfl⟩
    | holding t => exact .inr ⟨t, rfl, (hold t hs).1, free (hold t hs).2⟩
    | transferring => exact .inl ⟨rfl, (plain hs).1, free (plain hs).2⟩
    | yielding w =>
      cases w with
      | yielded => exact .inr (.inr rfl)
      | withdrawn => exact .inr (.inl ⟨rfl, (withdrawn hs).1, free (withdrawn hs).2⟩)
  · rw [hs]
    exact ⟨m, q, hu⟩

/-- A write of GRANT_PATIENCE moves the timer of a request, and nothing else of the bus (R76). -/
theorem writeGrantPatience_cases (v : BitVec 8) (s : State) :
    (∃ n p q, s.master.own = .requesting n p ∧ (s.writeGrantPatience v).master.own = .requesting n q) ∧
        (s.writeGrantPatience v).pins = s.pins ∧ (s.writeGrantPatience v).yieldAsked = s.yieldAsked ∨
      s.writeGrantPatience v = { s with master := { s.master with grantPatience := v } } := by
  unfold State.writeGrantPatience
  simp only
  split
  next n ho => exact .inl ⟨⟨n, _, _, ho, rfl⟩, rfl, rfl⟩
  next n p _ ho =>
    split
    · exact .inl ⟨⟨n, p, _, ho, rfl⟩, rfl, rfl⟩
    · split
      · exact .inl ⟨⟨n, p, _, ho, rfl⟩, rfl, rfl⟩
      · exact .inl ⟨⟨n, p, _, ho, rfl⟩, rfl, rfl⟩
  next => exact .inr rfl

theorem Owns.pon {s u : State} (h : Owns s u) : u.pins.pon = s.pins.pon := by
  rw [← h]

theorem Owns.transfer {s u : State} (h : Owns s u) : u.master.transfer = s.master.transfer := by
  rw [← h]

theorem Owns.anyEligible {s u : State} (h : Owns s u) : u.anyEligible = s.anyEligible := by
  rw [← h]
  rfl

/-- A move of the bus: a change of the ownership state that keeps the lines' law, alone or before the tests. -/
theorem BusMove.moved {s t : State} (h : BusMove s t) (hp : s.pins.pon = false) (law : s.busLaw) :
    ∃ u, Owns s u ∧ u.busLaw ∧ u.pins.pon = false ∧ (t = u.poll ∨ t = u ∧ (s.settledLaw → u.settledLaw)) := by
  have moves {u : State} (ho : Owns s u) (hm : s.movesTo u) : u.busLaw ∧ u.pins.pon = false :=
    have pon := ho.pon.trans hp
    ⟨busLaw_of_move law pon ho.transfer hm, pon⟩
  have alone {u : State} (ho : Owns s u) (hm : s.movesTo u) (hs : s.settledLaw → u.settledLaw) :
      ∃ u', Owns s u' ∧ u'.busLaw ∧ u'.pins.pon = false ∧ (u = u'.poll ∨ u = u' ∧ (s.settledLaw → u'.settledLaw)) :=
    ⟨u, ho, (moves ho hm).1, (moves ho hm).2, .inr ⟨rfl, hs⟩⟩
  have tested {u : State} (ho : Owns s u) (hm : s.movesTo u) :
      ∃ u', Owns s u' ∧ u'.busLaw ∧ u'.pins.pon = false ∧ (u.poll = u'.poll ∨ u.poll = u' ∧ (s.settledLaw → u'.settledLaw)) :=
    ⟨u, ho, (moves ho hm).1, (moves ho hm).2, .inl rfl⟩
  cases h with
  | grant => exact tested (Owns.trans (u := s.grantLevel true) rfl (regainGrant_owns _)) (regainGrant_moves law)
  | withdrawal =>
    exact alone (Owns.trans (u := s.grantLevel false) rfl (loseGrant_owns _)) (loseGrant_moves law)
      (fun settled => loseGrant_settledLaw settled hp)
  | yield =>
    refine alone (Owns.trans (u := s.yieldLevel true) rfl (yieldBus_owns _)) (yieldBus_moves law rfl rfl)
      (fun settled => yieldBus_settledLaw settled hp rfl rfl rfl rfl ?_)
    simp [State.yieldAsked, State.yieldLevel]
    tauto
  | unyield =>
    exact tested (u := s.yieldLevel false) rfl (movesTo_of_own law rfl nofun (.inl rfl))
  | honor v =>
    cases v with
    | true =>
      refine alone (u := ({ s with master := { s.master with yieldHonor := true } } : State).yieldBus)
        (Owns.trans (u := { s with master := { s.master with yieldHonor := true } }) rfl (yieldBus_owns _))
        (yieldBus_moves law rfl rfl) (fun settled => yieldBus_settledLaw settled hp rfl rfl rfl rfl ?_)
      simp +contextual [State.yieldAsked]
    | false =>
      exact tested (Owns.trans (u := { s with master := { s.master with yieldHonor := false } }) rfl (unyield_owns _))
        (unyield_moves law rfl rfl (by simp [State.yieldAsked]))
  | patience v =>
    have owns := writeGrantPatience_owns v s
    rcases writeGrantPatience_cases v s with ⟨⟨n, p, q, hs, hu⟩, pins, asked⟩ | eq
    · exact alone owns (movesTo_of_own law (by rw [pins]) (by simp [asked]) (.inr ⟨n, p, n, q, hs, hu⟩))
        fun settled => settledLaw_of_request settled (owns.pon.trans hp) owns.anyEligible (by simp [pins]) hs hu
    · rw [eq]
      exact alone rfl (movesTo_of_own law rfl id (.inl rfl))
        fun settled => settledLaw_of_stand settled hp rfl rfl id id rfl
  | patienceExpired =>
    unfold State.expireGrantPatience
    split
    next since ho =>
      refine alone rfl (movesTo_of_own law rfl id (.inr ⟨since, _, since, .expired, ho, rfl⟩))
        fun settled => settledLaw_of_request settled hp rfl id ho rfl
    next => exact alone (.refl s) (movesTo_of_own law rfl id (.inl rfl)) id
  | holdExpired =>
    unfold State.expireHold
    split
    next t ho =>
      refine alone rfl ?_ fun _ => settledLaw_of_release hp
      unfold State.movesTo
      rw [ho]
      exact .inl rfl
    next => exact alone (.refl s) (movesTo_of_own law rfl id (.inl rfl)) id

end Sys2Proof.Machine

/-! SUPPORT and PROOFS. Every event keeps the law of the bus and leaves the bus settled (R69 to R75). -/

namespace Sys2Proof.Machine

/-! ### The bus after a transfer -/

/-- An owned bus whose transfer has ended, with the lines that its state says. -/
def State.transferOver (s : State) : Prop :=
  s.master.transfer = none ∧ s.pins.pon = false ∧
    (s.master.own = .transferring ∧ s.pins.lbgnt = true ∧ s.yieldAsked = false ∨
      s.master.own = .yielding .withdrawn ∧ s.pins.lbgnt = false ∧ s.yieldAsked = false ∨
      s.master.own = .yielding .yielded)

theorem own_of_busLaw {s : State} (h : s.busLaw) (hx : s.master.transfer.isSome = true) :
    s.pins.pon = false ∧
      (s.master.own = .transferring ∧ s.pins.lbgnt = true ∧ s.yieldAsked = false ∨
        s.master.own = .yielding .withdrawn ∧ s.pins.lbgnt = false ∧ s.yieldAsked = false ∨
        s.master.own = .yielding .yielded) := by
  obtain ⟨pon, carried, plain, _, withdrawn⟩ := h
  refine ⟨?_, ?_⟩
  · by_contra hp
    simp [(pon (by simpa using hp)).2] at hx
  · rcases carried.1 hx with ho | ⟨w, ho⟩
    · exact .inl ⟨ho, plain ho⟩
    · cases w with
      | yielded => exact .inr (.inr ho)
      | withdrawn => exact .inr (.inl ⟨ho, withdrawn ho⟩)

theorem transferOver_of_delivered {s u : State} {x : Transfer} (h : s.busLaw) (hx : s.master.transfer = some x)
    (hd : Delivered x s.withoutTransfer u) : u.transferOver := by
  obtain ⟨pon, own⟩ := own_of_busLaw h (by simp [hx])
  have same := hd.sameBus
  refine ⟨hd.transfer, same.pon.trans pon, ?_⟩
  rw [same.own, same.lbgnt, same.yieldAsked]
  exact own

section
variable {s : State} (h : s.transferOver) (n : Nat)
include h

theorem release_busLaw : s.release.busLaw := by
  obtain ⟨hx, _⟩ := h
  exact busLaw_of_unowned hx (fun _ => rfl) (.inl rfl)

theorem settle_busLaw : (s.settle n).busLaw := by
  have released := release_busLaw h
  obtain ⟨hx, hp, ho⟩ := h
  unfold State.settle
  split
  next own =>
    have lines : s.pins.lbgnt = true ∧ s.yieldAsked = false := by simpa [own] using ho
    unfold State.settleOwned
    split
    · exact released
    · split
      next c hc => exact issue_busLaw hc hp (.inl ⟨own, lines⟩)
      next =>
        split
        · refine busLaw_of_unowned hx (fun h => absurd (hp.symm.trans h) nofun) (.inr (.inr ⟨_, rfl, lines⟩))
        · exact released
  next => exact released
  next =>
    split
    · exact busLaw_of_unowned hx (fun h => absurd (hp.symm.trans h) nofun) (.inr (.inl ⟨_, _, rfl⟩))
    · exact released
  all_goals simp_all

theorem settle_settledLaw : (s.settle n).settledLaw := by
  obtain ⟨_, hp, ho⟩ := h
  unfold State.settle
  split
  next own =>
    unfold State.settleOwned
    split
    · exact settledLaw_of_release hp
    · split
      next c _ => exact issue_settledLaw c hp (.inl own)
      next hc =>
        split
        · refine settledLaw_of_idle ?_ (.inr ⟨hp, _, rfl⟩)
          show s.anyEligible = false
          by_contra he
          have chosen := choose_isSome (s := s) (by simpa using he)
          rw [hc] at chosen
          cases chosen
        · exact settledLaw_of_release hp
  next => exact settledLaw_of_release hp
  next own =>
    have level : s.pins.lbgnt = false := by
      have := ho
      simp [own] at this
      exact this.1
    split
    next he =>
      exact ⟨fun h => absurd (hp.symm.trans h) nofun, nofun, fun _ _ _ => ⟨he, level⟩, nofun⟩
    next => exact settledLaw_of_release hp
  all_goals simp_all

end

/-! ### The resets -/

theorem carryOut_own (s : State) : s.carryOut.master.own = .released := by
  have own : s.carryOut.master.own = s.releaseIfAsked.master.own := rfl
  rw [own]
  unfold State.releaseIfAsked
  split
  next h => exact h
  next => rfl

theorem carryOut_busLaw {s : State} (hx : s.master.transfer = none) : s.carryOut.busLaw :=
  busLaw_of_unowned ((carryOut_transfer s).trans hx) (fun _ => carryOut_own s) (.inl (carryOut_own s))

/-- No client is eligible whose blocks are reset. -/
theorem anyEligible_of_reset {s : State} (hr : s.slot.record = none) (hw : s.pwq.records = [])
    (hi : s.inb.state = .off) (ho : s.outb.state = .off) : s.anyEligible = false := by
  simp [State.anyEligible, State.streamEligible, State.eligible, hr, hw, Inbound.moveReady, hi, Outbound.fetchReady, ho]

theorem carryOut_settledLaw (s : State) : s.carryOut.settledLaw :=
  settledLaw_of_idle (anyEligible_of_reset rfl rfl rfl rfl) (.inl (carryOut_own s))

theorem moduleReset_cases (s : State) :
    (∃ x, s.master.transfer = some x ∧
      s.moduleResetBegin.master.transfer = some { x with discard := true } ∧
      s.moduleResetBegin.master.own = .yielding .yielded) ∨
    s.master.transfer = none ∧ s.moduleResetBegin.master.transfer = none ∧ s.moduleResetBegin.master.own = .released := by
  have master : s.moduleResetBegin.master = s.resetMaster.master := rfl
  rw [master]
  unfold State.resetMaster State.releaseIfAsked
  simp only
  split
  next x hx => exact .inl ⟨x, hx, rfl, rfl⟩
  next hx =>
    split
    next ho => exact .inr ⟨hx, hx, ho⟩
    next => exact .inr ⟨hx, hx, rfl⟩

theorem moduleReset_pins (s : State) : s.moduleResetBegin.pins = s.pins :=
  (congrArg State.pins (resetMaster_frame s) :)

/-! ### Every event -/

theorem Act.keeps_busLaw {s t : State} (k : Act s t) (h : s.busLaw) : t.busLaw := by
  cases k with
  | still k => exact k.sameBus.keeps_busLaw h
  | calm k => exact k.sameBus.keeps_busLaw h
  | @polled u hp k =>
    have same : SameBus s u := by
      clear h
      induction k with
      | refl => exact .refl s
      | tail _ k ih => exact ih.trans k.sameBus
    exact poll_busLaw (same.keeps_busLaw h) (same.pon.trans hp)
  | bus hp k =>
    obtain ⟨u, _, law, pon, rfl | ⟨rfl, _⟩⟩ := k.moved hp h
    · exact poll_busLaw law pon
    · exact law
  | pins p hp =>
    obtain ⟨idle, _⟩ := h
    obtain ⟨own, none⟩ := idle hp
    exact busLaw_of_unowned none (fun _ => own) (.inl own)
  | idle n => exact h
  | late n => exact h
  | powerOn => exact busLaw_of_unowned rfl (fun _ => rfl) (.inl rfl)
  | moduleReset hp =>
    have pon : s.moduleResetBegin.pins.pon = false := by rw [moduleReset_pins, hp]
    rcases moduleReset_cases s with ⟨x, _, hx, ho⟩ | ⟨_, hx, ho⟩
    · exact busLaw_of_owned (by simp [hx]) pon (.inr (.inr ho))
    · exact busLaw_of_unowned hx (fun _ => ho) (.inl ho)
  | carriedOut _ hx => exact carryOut_busLaw hx
  | discarded x _ hx => exact busLaw_of_same (s := s) h rfl rfl rfl rfl (by simp [hx])
  | beat x ld _ hx => exact busLaw_of_same (s := s) h rfl rfl rfl rfl (by simp [hx, State.startTransfer])
  | ended x n _ hx k =>
    split
    · exact carryOut_busLaw k.transfer
    · exact settle_busLaw (transferOver_of_delivered h hx k) n

theorem Still.anyEligible {s t : State} (k : Still s t) : t.anyEligible = s.anyEligible := by
  cases k with
  | quiet k =>
    rw [← k]
    rfl
  | holdRead r hh _ hp =>
    have free := ((not_held_iff s).1 hh).2.1
    have waits : ((s.setRead (some r)).holdHost .readSlot).eligible .readSlot = s.eligible .readSlot := by
      simp [State.eligible, State.setRead, State.holdHost, hp, free]
    simp only [State.anyEligible, waits]
    rfl
  | readKind r k hr =>
    have waits : (s.setRead (some { r with kind := k })).eligible .readSlot = s.eligible .readSlot := by
      simp [State.eligible, State.setRead, hr]
    simp only [State.anyEligible, waits]
    rfl
  | _ => rfl

theorem Act.keeps_settledLaw {s t : State} (k : Act s t) (h : s.busLaw) (hs : s.settledLaw) : t.settledLaw := by
  have calm {u : State} (same : SameBus s u) (he : u.anyEligible = s.anyEligible) (hn : u.now = s.now) :
      u.settledLaw := by
    have passed : u.markPassed = s.markPassed := by
      unfold State.markPassed
      rw [same.mark, hn]
    unfold State.settledLaw
    rw [same.pon, same.own, he, same.yieldAsked, passed, same.lbgnt]
    exact hs
  have owned {u : State} (hx : s.master.transfer.isSome = true) (hp : u.pins.pon = s.pins.pon)
      (ho : u.master.own = s.master.own) : u.settledLaw := by
    have ⟨_, carried, _⟩ := h
    exact settledLaw_of_owned (hp.trans (own_of_busLaw h hx).1) (ho ▸ carried.1 hx)
  cases k with
  | still k => exact calm k.sameBus k.anyEligible k.now
  | calm k he hn => exact calm k.sameBus he hn
  | @polled u hp k =>
    have same : u.pins.pon = s.pins.pon := by
      clear calm owned
      induction k with
      | refl => rfl
      | tail _ k ih => exact k.sameBus.pon.trans ih
    exact poll_settledLaw (same.trans hp)
  | bus hp k =>
    obtain ⟨u, _, _, pon, rfl | ⟨rfl, stands⟩⟩ := k.moved hp h
    · exact poll_settledLaw pon
    · exact stands hs
  | pins p hp =>
    obtain ⟨idle, _⟩ := hs
    obtain ⟨own, none⟩ := idle hp
    exact settledLaw_of_idle none (.inl own)
  | idle n hp =>
    obtain ⟨idle, _⟩ := hs
    obtain ⟨own, none⟩ := idle hp
    exact settledLaw_of_idle none (.inl own)
  | late n hx => exact owned hx rfl rfl
  | powerOn => exact settledLaw_of_idle (anyEligible_of_reset rfl rfl rfl rfl) (.inl rfl)
  | moduleReset hp =>
    have pon : s.moduleResetBegin.pins.pon = false := by rw [moduleReset_pins, hp]
    rcases moduleReset_cases s with ⟨x, _, _, ho⟩ | ⟨_, _, ho⟩
    · exact settledLaw_of_owned pon (.inr ⟨_, ho⟩)
    · exact settledLaw_of_idle (anyEligible_of_reset rfl rfl rfl rfl) (.inl ho)
  | carriedOut => exact carryOut_settledLaw s
  | discarded x _ hx => exact owned (by simp [hx]) rfl rfl
  | beat x ld _ hx => exact owned (by simp [hx]) rfl rfl
  | ended x n _ hx k =>
    split
    · exact carryOut_settledLaw _
    · exact settle_settledLaw (transferOver_of_delivered h hx k) n

/-- Settles O56: a change that can make a client eligible or end a transfer ends with the tests of the bus, which leave
nothing standing; every other change leaves the eligible clients, the lines and the time as they are. -/
theorem stepKeepsBusSettled : Obligations.StepKeepsBusSettled :=
  fun _ _ hs h => step_keeps (P := fun u => u.busLaw ∧ u.settledLaw)
    (fun _ _ k hu => ⟨k.keeps_busLaw hu.1, k.keeps_settledLaw hu.1 hu.2⟩) h hs

end Sys2Proof.Machine

/-! SUPPORT and PROOFS. Every step keeps the transfer in flight and its client in agreement (R25, R45, R63, R172). -/

namespace Sys2Proof.Machine

/-! ### What is in flight -/

/-- The head of the queue is in flight. -/
def State.headFlies (s : State) : Prop := ∃ r ∈ s.pwq.records.head?, r.inFlight = true

/-- The slot's read or the orphan is in flight. -/
def State.slotFlies (s : State) : Prop :=
  (∃ r ∈ s.slot.record, r.phase = .inFlight) ∨ s.slot.orphan.isSome = true

/-- At most the head of the queue is in flight, and the orphan is not beside a read in flight. -/
def State.fliesOnce (s : State) : Prop :=
  (∀ r ∈ s.pwq.records.tail, r.inFlight = false) ∧
  (s.slot.orphan.isSome = true → ¬ ∃ r ∈ s.slot.record, r.phase = .inFlight)

theorem transferLaw_iff (s : State) :
    s.transferLaw ↔
      (s.power.resetBusy = true → ∃ x ∈ s.master.transfer, x.discard = true) ∧
      (∀ x ∈ s.master.transfer, x.beatsDone < x.beats.length ∧ x.beats.length ≤ 8) ∧ s.fliesOnce ∧
      (s.headFlies → ∃ x ∈ s.master.transfer, x.client = .pwq ∧ (x.discard = true → s.power.resetBusy = true)) ∧
      (∀ x ∈ s.master.transfer, x.client = .pwq → x.discard = false → s.headFlies) ∧
      (s.slotFlies → ∃ x ∈ s.master.transfer, x.client = .readSlot ∧ (x.discard = true → s.power.resetBusy = true)) ∧
      (∀ x ∈ s.master.transfer, x.client = .readSlot → x.discard = false → s.slotFlies) := by
  have head : s.headFlies → (P : Prop) → (∀ r ∈ s.pwq.records.head?, r.inFlight = true → P) → P :=
    fun ⟨r, hr, hf⟩ _ h => h r hr hf
  unfold State.transferLaw State.fliesOnce State.slotFlies
  constructor
  · rintro ⟨h1, h2, h3, h4, h5, h6, h7, h8⟩
    exact ⟨h1, h2, ⟨h3, h8⟩, fun hf => head hf _ h4, h5, h6, h7⟩
  · rintro ⟨h1, h2, ⟨h3, h8⟩, h4, h5, h6, h7⟩
    exact ⟨h1, h2, h3, fun r hr hf => h4 ⟨r, hr, hf⟩, h5, h6, h7, h8⟩

/-- The same is in flight. -/
structure SameFlight (s t : State) : Prop where
  head : t.headFlies ↔ s.headFlies
  slot : t.slotFlies ↔ s.slotFlies
  once : s.fliesOnce → t.fliesOnce

theorem SameFlight.refl (s : State) : SameFlight s s := ⟨.rfl, .rfl, id⟩

theorem SameFlight.trans {s t u : State} (h : SameFlight s t) (k : SameFlight t u) : SameFlight s u :=
  ⟨k.head.trans h.head, k.slot.trans h.slot, fun hs => k.once (h.once hs)⟩

theorem sameFlight_of_eq {s t : State}
    (hr : t.pwq.records.map (·.inFlight) = s.pwq.records.map (·.inFlight))
    (ho : t.slot.orphan.isSome = s.slot.orphan.isSome)
    (hs : (∃ r ∈ t.slot.record, r.phase = .inFlight) ↔ ∃ r ∈ s.slot.record, r.phase = .inFlight) : SameFlight s t := by
  have head (u : State) : u.headFlies ↔ (u.pwq.records.map (·.inFlight)).head? = some true := by
    unfold State.headFlies
    cases u.pwq.records <;> simp
  have tail (u : State) : (∀ r ∈ u.pwq.records.tail, r.inFlight = false) ↔
      ∀ b ∈ (u.pwq.records.map (·.inFlight)).tail, b = false := by
    cases u.pwq.records <;> simp
  refine ⟨?_, ?_, ?_⟩
  · rw [head, head, hr]
  · unfold State.slotFlies
    rw [hs, ho]
  · unfold State.fliesOnce
    rw [tail, tail, hr, hs, ho]
    exact id

/-- A record that is not in flight leaves. -/
theorem sameFlight_of_left {s : State} {r : WriteRecord} {older newer : List WriteRecord}
    (h : s.pwq.records = older ++ r :: newer) (hf : r.inFlight = false) (hs : s.fliesOnce) :
    SameFlight s (s.setRecords (older ++ newer)) := by
  obtain ⟨tail, orphan⟩ := hs
  rw [h] at tail
  cases older with
  | nil =>
    simp only [List.nil_append, List.tail_cons] at tail h ⊢
    have none : ¬ s.headFlies := by simp [State.headFlies, h, hf]
    have none' : ¬ (s.setRecords newer).headFlies := by
      rintro ⟨q, hq, hqf⟩
      simp [tail q (List.mem_of_mem_head? hq)] at hqf
    exact ⟨by simp [none, none'], .rfl, fun _ => ⟨fun q hq => tail q (List.mem_of_mem_tail hq), orphan⟩⟩
  | cons a older =>
    simp only [List.cons_append, List.tail_cons] at tail h ⊢
    refine ⟨by simp [State.headFlies, State.setRecords, h], .rfl, fun _ => ⟨fun q hq => tail q ?_, orphan⟩⟩
    have mem : q ∈ older ++ newer := hq
    simp only [List.mem_append, List.mem_cons] at mem ⊢
    tauto

theorem Still.sameFlight {s t : State} (k : Still s t) : SameFlight s t := by
  cases k with
  | quiet k =>
    have queue : t.pwq = s.pwq := (congrArg State.pwq k :)
    have slot : t.slot = s.slot := (congrArg State.slot k :)
    exact sameFlight_of_eq (by rw [queue]) (by rw [slot]) (by rw [slot])
  | holdRead r hh _ hp =>
    have free := ((not_held_iff s).1 hh).2.1
    exact sameFlight_of_eq rfl rfl (by simp [State.setRead, State.holdHost, hp, free])
  | readKind r k hr => exact sameFlight_of_eq rfl rfl (by simp [State.setRead, hr])
  | _ => exact ⟨.rfl, .rfl, id⟩

theorem Change.sameFlight {ending : Prop} {s t : State} (k : Change ending s t) (hs : s.fliesOnce) :
    SameFlight s t := by
  cases k with
  | still k => exact k.sameFlight
  | merged rs hm =>
    refine sameFlight_of_eq (s := s) (t := s.setRecords rs) ?_ rfl .rfl
    have := congrArg (List.map (fun p => p.2.2)) hm
    simpa [State.setRecords, Function.comp_def] using this
  | appended r n hf =>
    obtain ⟨tail, orphan⟩ := hs
    cases hr : s.pwq.records with
    | nil => refine ⟨by simp [State.headFlies, hr, hf], .rfl, fun _ => ⟨by simp, orphan⟩⟩
    | cons a rest =>
      rw [hr] at tail
      refine ⟨by simp [State.headFlies, hr], .rfl, fun _ => ⟨fun q hq => ?_, orphan⟩⟩
      have mem : q ∈ rest ++ [r] := hq
      rcases List.mem_append.1 mem with hq | hq
      · exact tail q hq
      · exact List.mem_singleton.1 hq ▸ hf
  | left r older newer hr hf => exact sameFlight_of_left hr hf hs
  | emptied r older newer hr hf =>
    exact (sameFlight_of_left hr hf hs).trans (sameFlight_of_eq rfl rfl .rfl)
  | ordered r hr hp => exact sameFlight_of_eq rfl rfl (by simp [State.setRead, hr, hp])
  | readEnded r a _ hr hp => exact sameFlight_of_eq rfl rfl (by simp [State.setRead, State.releaseHost, hr, hp])
  | orphaned r o a _ hr hp =>
    refine ⟨.rfl, ?_, fun _ => ⟨hs.1, fun _ => ?_⟩⟩
    · simp [State.slotFlies, State.setRead, State.releaseHost, State.setOrphan, hr, hp]
    · simp [State.setRead, State.releaseHost, State.setOrphan]
  | _ => exact ⟨.rfl, .rfl, id⟩

/-- Nothing is in flight. -/
def State.grounded (s : State) : Prop := s.fliesOnce ∧ ¬ s.headFlies ∧ ¬ s.slotFlies

theorem SameFlight.grounded {s t : State} (k : SameFlight s t) (h : s.grounded) : t.grounded := by
  obtain ⟨once, head, slot⟩ := h
  exact ⟨k.once once, k.head.not.2 head, k.slot.not.2 slot⟩

theorem Changes.grounded {s t : State} (k : Changes True s t) (h : s.grounded) : t.grounded := by
  induction k with
  | refl => exact h
  | tail _ k ih => exact (k.sameFlight ih.1).grounded ih

theorem Stills.sameFlight {s t : State} (k : Stills s t) : SameFlight s t := by
  induction k with
  | refl => exact .refl s
  | tail _ k ih => exact ih.trans k.sameFlight

/-- Records behind the head alone are grounded. -/
theorem grounded_of_rest {s t : State} {r : WriteRecord} {rest : List WriteRecord} (hr : s.pwq.records = r :: rest)
    (ht : ∀ q ∈ t.pwq.records, q ∈ rest) (hslot : t.slot = s.slot) (hs : s.fliesOnce) (hn : ¬ s.slotFlies) :
    t.grounded := by
  obtain ⟨tail, orphan⟩ := hs
  rw [hr] at tail
  have still (q : WriteRecord) (hq : q ∈ t.pwq.records) : q.inFlight = false := tail q (ht q hq)
  refine ⟨⟨fun q hq => still q (List.mem_of_mem_tail hq), by rw [hslot]; exact orphan⟩, ?_, ?_⟩
  · rintro ⟨q, hq, hf⟩
    simp [still q (List.mem_of_mem_head? hq)] at hf
  · simpa [State.slotFlies, hslot] using hn

/-- The end of a transfer takes what was in flight. -/
theorem Finish.grounded {x : Transfer} {s t : State} (k : Finish x s t) (hs : s.fliesOnce)
    (hw : s.headFlies → x.client = .pwq) (hr : s.slotFlies → x.client = .readSlot) : t.grounded := by
  have noSlot (hc : x.client = .pwq) : ¬ s.slotFlies := fun h => by simp [hr h] at hc
  have noHead (hc : x.client = .readSlot) : ¬ s.headFlies := fun h => by simp [hw h] at hc
  cases k with
  | left hc r rest h => exact grounded_of_rest h (fun _ => id) rfl hs (noSlot hc)
  | emptied hc r rest h => exact grounded_of_rest h (fun _ => id) rfl hs (noSlot hc)
  | failed hc r rest h =>
    have frame := markFailed_frame r.entry (s.setRecords (rest.filter (fun q => !decide (q.entry = r.entry))))
    have records := (congrArg (fun u : State => u.pwq.records) frame :)
    refine grounded_of_rest h (fun q hq => ?_) (congrArg State.slot frame :) hs (noSlot hc)
    rw [records] at hq
    exact List.mem_of_mem_filter hq
  | read hc r a _ h hp =>
    obtain ⟨tail, orphan⟩ := hs
    have none : ¬ s.slot.orphan.isSome = true := fun ho => orphan ho ⟨r, h, hp⟩
    refine ⟨⟨tail, fun ho => absurd ho none⟩, noHead hc, ?_⟩
    rintro (⟨q, hq, _⟩ | ho)
    · cases hq
    · exact none ho
  | orphan hc h =>
    obtain ⟨tail, _⟩ := hs
    refine ⟨⟨tail, nofun⟩, noHead hc, ?_⟩
    rintro (⟨q, hq, hp⟩ | ho)
    · exact h q hq hp
    · cases ho
  | moved hc =>
    refine ⟨hs, fun h => ?_, fun h => ?_⟩
    · simp [hw h] at hc
    · simp [hr h] at hc
  | nothing hqueue hslot =>
    refine ⟨hs, fun h => ?_, fun h => ?_⟩
    · obtain ⟨q, hq, _⟩ := h
      simp [hqueue (hw ⟨q, hq, ‹_›⟩)] at hq
    · obtain ⟨still, none⟩ := hslot (hr h)
      rcases h with ⟨q, hq, hp⟩ | ho
      · exact still q hq hp
      · simp [none] at ho

/-! ### The issue of a transfer -/

theorem transferLaw_of_grounded {s : State} (hx : s.master.transfer = none) (hb : s.power.resetBusy = false)
    (h : s.grounded) : s.transferLaw := by
  obtain ⟨once, head, slot⟩ := h
  rw [transferLaw_iff]
  refine ⟨by simp [hb], by simp [hx], once, fun h => absurd h head, by simp [hx], fun h => absurd h slot, by simp [hx]⟩

theorem grounded_of_transferLaw {s : State} (hx : s.master.transfer = none) (h : s.transferLaw) :
    s.power.resetBusy = false ∧ s.grounded := by
  rw [transferLaw_iff] at h
  obtain ⟨busy, _, once, head, _, slot, _⟩ := h
  refine ⟨?_, once, ?_, ?_⟩
  · by_contra hb
    simpa [hx] using busy (by simpa using hb)
  · exact fun hf => by simpa [hx] using head hf
  · exact fun hf => by simpa [hx] using slot hf

theorem runBeats_length (skip : Nat) (bytes : List Byte) : (runBeats skip bytes).length = runWords skip bytes.length := by
  simp [runBeats]

theorem runWords_range {skip len : Nat} (h1 : 1 ≤ len) (h2 : skip + len ≤ Config.runBytes) :
    0 < runWords skip len ∧ runWords skip len ≤ 8 := by
  have run : Config.runBytes = 16 := rfl
  unfold runWords
  omega

/-- The length of a fetch is at least 1 and ends with its word run (R117). -/
theorem fetchLen_range {c : Outbound} (h : c.fetchReady = true) :
    1 ≤ c.fetchLen ∧ skipOf c.fetchAddr + c.fetchLen ≤ Config.runBytes := by
  simp only [Outbound.fetchReady, Bool.and_eq_true, decide_eq_true_eq] at h
  obtain ⟨⟨_, fetchable⟩, room⟩ := h
  have skip : skipOf c.fetchAddr < 4 := Nat.mod_lt _ (by decide)
  have left : c.fetch % ringSize c.size < ringSize c.size := Nat.mod_lt _ (ringSize_pos c.size)
  have run : Config.runBytes = 16 := rfl
  unfold Outbound.fetchLen
  omega

/-- The beats of a transfer issued, from none done to at most 8. -/
theorem issue_beats {s : State} {c : Client} (h : s.eligible c = true) :
    ∀ x ∈ (s.issue c).master.transfer, x.beatsDone < x.beats.length ∧ x.beats.length ≤ 8 := by
  unfold State.issue
  simp only [State.eligible, Bool.and_eq_true] at h
  obtain ⟨_, h⟩ := h
  cases c with
  | readSlot =>
    cases hr : s.slot.record with
    | none => simp [hr] at h
    | some r => cases hk : r.kind <;> simp [State.account, State.issueRead, State.startTransfer, hr, hk]
  | pwq =>
    cases hr : s.pwq.records with
    | nil => simp [hr] at h
    | cons r rest => simp [State.account, State.issueWrite, State.startTransfer, hr]
  | inbound =>
    simp only [Bool.and_eq_true] at h
    obtain ⟨_, pos, fifo, _⟩ := moveLen_range h.1
    have fits : skipOf s.inb.moveAddr + s.inb.moveLen ≤ Config.runBytes := by
      have skip : skipOf s.inb.moveAddr < 4 := Nat.mod_lt _ (by decide)
      have run : Config.runBytes = 16 := rfl
      unfold Inbound.moveLen
      omega
    rintro x ⟨⟩
    have length : (s.inb.fifo.take s.inb.moveLen).length = s.inb.moveLen := by simpa using fifo
    show 0 < (runBeats _ (s.inb.fifo.take s.inb.moveLen)).length ∧ (runBeats _ (s.inb.fifo.take s.inb.moveLen)).length ≤ 8
    rw [runBeats_length, length]
    exact runWords_range pos fits
  | outbound =>
    simp only [Bool.and_eq_true] at h
    obtain ⟨pos, fits⟩ := fetchLen_range h.1.1
    rintro x ⟨⟩
    rw [runBeats_length, List.length_replicate]
    exact runWords_range pos fits

/-- What an issue puts in flight. -/
theorem issue_flight {s : State} {c : Client} (h : s.eligible c = true) (hg : s.grounded) :
    (s.issue c).fliesOnce ∧ ((s.issue c).headFlies ↔ c = .pwq) ∧ ((s.issue c).slotFlies ↔ c = .readSlot) := by
  obtain ⟨⟨tail, orphan⟩, head, slot⟩ := hg
  unfold State.issue
  cases c with
  | readSlot =>
    cases hr : s.slot.record with
    | none => simp [State.eligible, hr] at h
    | some r =>
      have none : s.slot.orphan = none := by
        rw [← Option.not_isSome_iff_eq_none]
        exact fun ho => slot (.inr ho)
      have issued : ∃ q, (s.account .readSlot).issueRead.slot = { s.slot with record := some q } ∧ q.phase = .inFlight ∧
          (s.account .readSlot).issueRead.pwq = s.pwq := by
        simp only [State.account, State.issueRead, hr]
        split
        · exact ⟨_, rfl, rfl, rfl⟩
        · exact ⟨_, rfl, rfl, rfl⟩
      obtain ⟨q, hslot, hq, hqueue⟩ := issued
      refine ⟨⟨by rw [hqueue]; exact tail, by simp [hslot, none]⟩, ?_, ?_⟩
      · simpa [State.headFlies, hqueue] using head
      · simp [State.slotFlies, hslot, hq]
  | pwq =>
    cases hr : s.pwq.records with
    | nil => simp [State.eligible, hr] at h
    | cons r rest =>
      rw [hr] at tail
      have queue : (s.account .pwq).issueWrite.pwq.records = { r with inFlight := true } :: rest := by
        simp [State.account, State.issueWrite, State.startTransfer, hr]
      have slot' : (s.account .pwq).issueWrite.slot = s.slot := by
        simp only [State.account, State.issueWrite, hr]
        rfl
      refine ⟨⟨by simpa [queue] using tail, by simpa [slot'] using orphan⟩, ?_, ?_⟩
      · simp [State.headFlies, queue]
      · simpa [State.slotFlies, slot'] using slot
  | inbound => exact ⟨⟨tail, orphan⟩, iff_of_false head nofun, iff_of_false slot nofun⟩
  | outbound => exact ⟨⟨tail, orphan⟩, iff_of_false head nofun, iff_of_false slot nofun⟩

theorem issue_transferLaw {s : State} {c : Client} (hc : s.choose = some c) (hx : s.master.transfer = none)
    (h : s.transferLaw) : (s.issue c).transferLaw := by
  obtain ⟨busy, grounded⟩ := grounded_of_transferLaw hx h
  have eligible := choose_eligible hc
  have power : (s.issue c).power = s.power := (congrArg State.power (issue_frame c s) :)
  obtain ⟨x, issued, client, _, keep⟩ := issue_transfer eligible
  obtain ⟨once, head, slot⟩ := issue_flight eligible grounded
  have only (y : Transfer) (hy : y ∈ (s.issue c).master.transfer) : y.client = c := by
    rw [issued] at hy
    cases hy
    exact client
  rw [transferLaw_iff]
  refine ⟨by simp [power, busy], issue_beats eligible, once, fun h => ?_, fun y hy hyc _ => ?_, fun h => ?_,
    fun y hy hyc _ => ?_⟩
  · exact ⟨x, issued, client.trans (head.1 h), by simp [keep]⟩
  · exact head.2 ((only y hy).symm.trans hyc)
  · exact ⟨x, issued, client.trans (slot.1 h), by simp [keep]⟩
  · exact slot.2 ((only y hy).symm.trans hyc)

/-! ### Every event -/

theorem Owns.keeps_transferLaw {s u : State} (k : Owns s u) (h : s.transferLaw) : u.transferLaw := by
  rw [← k] at h
  exact h

theorem Settles.keeps_transferLaw {s t : State} (k : Settles s t) (hx : s.master.transfer = none) (h : s.transferLaw) :
    t.transferLaw := by
  cases k with
  | owns k => exact k.keeps_transferLaw h
  | issued c k hc => exact issue_transferLaw (k.choose.trans hc) (k.transfer.trans hx) (k.keeps_transferLaw h)

/-- The tests change nothing while the bus is owned, and otherwise find no transfer in flight. -/
theorem poll_transferLaw {s : State} (law : s.busLaw) (h : s.transferLaw) : s.poll.transferLaw := by
  cases hx : s.master.transfer with
  | none => exact (poll_settles s).keeps_transferLaw hx h
  | some x =>
    obtain ⟨_, carried, _⟩ := law
    have stays : s.poll = s := by
      unfold State.poll
      rcases carried.1 (by simp [hx]) with ho | ⟨w, ho⟩ <;> rw [ho]
    rw [stays]
    exact h

theorem SameFlight.keeps_transferLaw {s t : State} (k : SameFlight s t) (hx : t.master.transfer = s.master.transfer)
    (hb : t.power.resetBusy = s.power.resetBusy) (h : s.transferLaw) : t.transferLaw := by
  rw [transferLaw_iff] at h ⊢
  rw [k.head, k.slot, hx, hb]
  obtain ⟨h1, h2, once, rest⟩ := h
  exact ⟨h1, h2, k.once once, rest⟩

theorem Change.keeps_transferLaw {ending : Prop} {s t : State} (k : Change ending s t) (h : s.transferLaw) :
    t.transferLaw := by
  have ⟨_, _, once, _⟩ := (transferLaw_iff s).1 h
  exact (k.sameFlight once).keeps_transferLaw k.sameBus.transfer k.sameBus.busy h

/-- A transfer that ended with no datapath reset in progress leaves nothing in flight. -/
theorem delivered_grounded {s u : State} {x : Transfer} (h : s.transferLaw) (hx : s.master.transfer = some x)
    (hb : s.power.resetBusy = false) (k : Delivered x s.withoutTransfer u) : u.grounded := by
  rw [transferLaw_iff] at h
  obtain ⟨_, _, once, head, _, slot, _⟩ := h
  have client {c : Client} (h : ∃ y ∈ s.master.transfer, y.client = c ∧ (y.discard = true → s.power.resetBusy = true)) :
      x.client = c ∧ ¬ x.discard = true := by
    obtain ⟨y, hy, hc, hd⟩ := h
    rw [hx] at hy
    cases hy
    exact ⟨hc, fun hd' => by simp [hd hd'] at hb⟩
  rcases k.ended rfl with ⟨hd, rfl⟩ | ⟨_, v, w, stills, finish, changes⟩
  · exact ⟨once, fun hf => (client (head hf)).2 hd, fun hf => (client (slot hf)).2 hd⟩
  · have same := Stills.sameFlight stills
    exact Changes.grounded changes (finish.grounded (same.once once) (fun hf => (client (head (same.head.1 hf))).1)
      (fun hf => (client (slot (same.slot.1 hf))).1))

theorem grounded_of_reset {s : State} (hw : s.pwq.records = []) (hs : s.slot = ReadSlot.reset) : s.grounded := by
  refine ⟨⟨by simp [hw], ?_⟩, ?_, ?_⟩ <;> simp [State.headFlies, State.slotFlies, hw, hs, ReadSlot.reset]

theorem Act.keeps_transferLaw {s t : State} (k : Act s t) (law : s.busLaw) (h : s.transferLaw) : t.transferLaw := by
  cases k with
  | still k => exact (Change.still (ending := False) k).keeps_transferLaw h
  | calm k => exact k.keeps_transferLaw h
  | @polled u hp k =>
    have kept : u.busLaw ∧ u.transferLaw := by
      induction k with
      | refl => exact ⟨law, h⟩
      | tail _ k ih => exact ⟨k.sameBus.keeps_busLaw ih.1, k.keeps_transferLaw ih.2⟩
    exact poll_transferLaw kept.1 kept.2
  | bus hp k =>
    obtain ⟨u, owns, law', _, rfl | ⟨rfl, _⟩⟩ := k.moved hp law
    · exact poll_transferLaw law' (owns.keeps_transferLaw h)
    · exact owns.keeps_transferLaw h
  | pins p => exact h
  | idle n => exact h
  | late n => exact h
  | powerOn => exact transferLaw_of_grounded rfl rfl (grounded_of_reset rfl rfl)
  | moduleReset =>
    obtain ⟨once, head, slot⟩ := grounded_of_reset (s := s.moduleResetBegin) rfl rfl
    rcases moduleReset_cases s with ⟨x, hx, hx', _⟩ | ⟨_, hx, _⟩
    · have ⟨_, beats, _⟩ := (transferLaw_iff s).1 h
      rw [transferLaw_iff, hx']
      refine ⟨nofun, ?_, once, fun h => absurd h head, ?_, fun h => absurd h slot, ?_⟩
      · rintro _ ⟨⟩
        exact beats x hx
      · rintro _ ⟨⟩ _ hd
        cases hd
      · rintro _ ⟨⟩ _ hd
        cases hd
    · exact transferLaw_of_grounded hx rfl ⟨once, head, slot⟩
  | carriedOut _ hx =>
    exact transferLaw_of_grounded ((carryOut_transfer s).trans hx) rfl (grounded_of_reset rfl rfl)
  | discarded x _ hx =>
    rw [transferLaw_iff] at h ⊢
    obtain ⟨_, beats, once, head, _, slot, _⟩ := h
    have client {c : Client} (h : ∃ y ∈ s.master.transfer, y.client = c ∧ (y.discard = true → s.power.resetBusy = true)) :
        x.client = c := by
      obtain ⟨y, hy, hc, _⟩ := h
      rw [hx] at hy
      cases hy
      exact hc
    refine ⟨fun _ => ⟨_, rfl, rfl⟩, ?_, once, fun hf => ⟨_, rfl, client (head hf), fun _ => rfl⟩, ?_,
      fun hf => ⟨_, rfl, client (slot hf), fun _ => rfl⟩, ?_⟩
    · rintro _ ⟨⟩
      exact beats x hx
    · rintro _ ⟨⟩ _ hd
      cases hd
    · rintro _ ⟨⟩ _ hd
      cases hd
  | beat x ld _ hx hl =>
    rw [transferLaw_iff] at h ⊢
    obtain ⟨busy, beats, once, head, headBack, slot, slotBack⟩ := h
    have same {P : Transfer → Prop} (hy : ∃ y ∈ s.master.transfer, P y) : P x := by
      obtain ⟨y, hy, hP⟩ := hy
      rw [hx] at hy
      cases hy
      exact hP
    refine ⟨fun hb => ⟨_, rfl, same (busy hb)⟩, ?_, once, fun hf => ⟨_, rfl, same (head hf)⟩, ?_,
      fun hf => ⟨_, rfl, same (slot hf)⟩, ?_⟩
    · rintro _ ⟨⟩
      exact ⟨hl, (beats x hx).2⟩
    · rintro _ ⟨⟩
      exact headBack x hx
    · rintro _ ⟨⟩
      exact slotBack x hx
  | ended x n _ hx k =>
    have transfer := k.transfer
    split
    · exact transferLaw_of_grounded ((carryOut_transfer _).trans transfer) rfl (grounded_of_reset rfl rfl)
    next hb =>
      have idle : s.power.resetBusy = false := by simpa using hb
      exact (settle_settles ..).keeps_transferLaw transfer
        (transferLaw_of_grounded transfer (k.sameBus.busy.trans idle) (delivered_grounded h hx idle k))

/-- Settles O55: a transfer is issued only where none is in flight, its client's work is what is in flight, and its end
takes that work. -/
theorem stepKeepsBusAndTransfers : Obligations.StepKeepsBusAndTransfers :=
  fun _ _ hs h => step_keeps (P := fun u => u.busLaw ∧ u.transferLaw)
    (fun _ _ k hu => ⟨k.keeps_busLaw hu.1, k.keeps_transferLaw hu.1 hu.2⟩) h hs

end Sys2Proof.Machine

/-! SUPPORT and PROOFS. The step, the power-on values, the laws after reset, and the registers whose writes only clear,
post or pop (R22, R83, R93, R122, R129, R147 to R154, R163, R170). -/

namespace Sys2Proof.Machine

/-! ### The step (log entries 1 and 2) -/

/-- Settles O1: by the definition of a step. -/
theorem stepRunsTheFrontCommand : Obligations.StepRunsTheFrontCommand :=
  fun _ _ _ => rfl

/-- A tick keeps a bus settled on which no request waits for it. -/
theorem settledLaw_tick {s : State} (h : s.settledLaw) (hp : s.pins.pon = false)
    (hw : s.master.own ≠ .released ∨ s.anyEligible = false ∨ s.yieldAsked = true) :
    State.settledLaw { s with now := s.now + 1 } := by
  obtain ⟨_, _, requesting, holding⟩ := h
  refine ⟨fun h => absurd (hp.symm.trans h) nofun, fun ho ⟨he, hy, _⟩ => ?_, requesting, holding⟩
  rcases hw with hw | hw | hw
  · exact hw ho
  · exact absurd (hw.symm.trans he) nofun
  · exact absurd (hw.symm.trans hy) nofun

/-- Settles O2: a tick is the tests of the bus one microsecond later, which a settled bus meets with nothing but the begin
of a request that waited. -/
theorem emptyQueueStepIsOneTick : Obligations.EmptyQueueStepIsOneTick := by
  intro s hq
  have ticks : step s = .next s.tick := by simp [step, hq]
  rw [ticks]
  refine ⟨fun hp => ?_, fun hp law hw => ?_, fun hp ho he hy hg hm => ?_⟩
  · simp [State.tick, hp]
  · simp [State.tick, hp, poll_settled _ (settledLaw_tick law hp hw)]
  · have passed : State.markPassed { s with now := s.now + 1 } = true := by
      unfold State.markPassed
      split
      next m hmark => exact decide_eq_true (Nat.lt_succ_of_le (hm m hmark))
      next => rfl
    have eligible : State.anyEligible { s with now := s.now + 1 } = true := he
    have asked : State.yieldAsked { s with now := s.now + 1 } = false := hy
    simp only [State.tick, hp, State.poll, ho, eligible, asked, passed, hg]
    rfl

/-! ### The resets (R170) -/

/-- Settles O3: the fields of the reset state. -/
theorem resetHoldsThePowerOnValues : Obligations.ResetHoldsThePowerOnValues := by
  have entries : ∀ e : EntryIdx, State.reset.table.entries[e] = { editable := false, live := none } := by decide
  unfold Obligations.ResetHoldsThePowerOnValues
  and_intros
  any_goals rfl
  · exact entries
  · intro n
    cases n <;> rfl

/-- The outbound ring after reset. -/
theorem reset_outboundLaw : State.reset.outboundLaw :=
  ⟨by decide, by decide, by decide, by decide, by decide, rfl, by decide, nofun, .nil, nofun⟩

/-- Settles O4: each law by its lemma for empty blocks. -/
theorem resetObeysEveryLaw : Obligations.ResetObeysEveryLaw := by
  obtain ⟨aperture, queue⟩ := tableLaw_of_reset (s := State.reset) rfl rfl
  obtain ⟨order, good⟩ := readLaw_of_reset (s := State.reset) rfl rfl
  have capacity : State.reset.capacityLaw := capacityLaw_of_empty rfl rfl (Nat.zero_le _) rfl rfl rfl rfl
  have register : State.reset.registerLaw :=
    ⟨by decide, by decide, by decide, by decide, by decide, nofun, by rintro (h | h) <;> cases h⟩
  have proposals : State.reset.proposalLaw := resetSettings_proposalLaw rfl fun _ => rfl
  exact ⟨capacity, register, aperture, queue, order, good, busLaw_of_unowned rfl nofun (.inl rfl),
    settledLaw_of_idle (anyEligible_of_reset rfl rfl rfl rfl) (.inl rfl),
    transferLaw_of_grounded rfl rfl (grounded_of_reset rfl rfl), hostLaw_of_free rfl nofun rfl,
    inboundLaw_of_empty ⟨rfl, rfl⟩ nofun, reset_outboundLaw, proposals, dormantLaw_of_awake nofun⟩

/-- Settles O5: by the definition of the power-on reset. -/
theorem powerOnResetTakesPowerOnValues : Obligations.PowerOnResetTakesPowerOnValues :=
  ⟨fun s => ⟨s.powerOn, rfl, rfl, rfl, rfl, rfl, rfl, rfl, rfl, rfl, rfl, rfl, rfl, rfl⟩, fun _ => rfl⟩

/-! ### PON asserted (R170) -/

/-- A command took nothing: only the lines' levels and the host's answer may have changed. -/
def State.tookNothing (s : State) (o : Host.Outcome State Fault Refusal) : Prop :=
  ∃ t, o = .next t ∧ t.pins.pon = true ∧ { t with pins := s.pins, hostReply := s.hostReply } = s

section
variable {s : State} (hp : s.pins.pon = true)
include hp

theorem hostWrite_pon (f : State → State) : hostWrite f s = s.reply .written := by simp [hostWrite, hp]

theorem hostRead_pon (f : State → State) : hostRead f s = s.reply fillerReply := by simp [hostRead, hp]

theorem localWrite_pon (f : State → State) : localWrite f s = s := by simp [localWrite, State.localOpen, hp]

theorem unlessPon_pon (f : State → State) : unlessPon f s = s := by simp [unlessPon, hp]

theorem hostWrite_tookNothing (f : State → State) : s.tookNothing (.next (hostWrite f s)) :=
  ⟨_, rfl, by rw [hostWrite_pon hp]; exact hp, by rw [hostWrite_pon hp]; rfl⟩

theorem hostRead_tookNothing (f : State → State) : s.tookNothing (.next (hostRead f s)) :=
  ⟨_, rfl, by rw [hostRead_pon hp]; exact hp, by rw [hostRead_pon hp]; rfl⟩

theorem localWrite_tookNothing (f : State → State) : s.tookNothing (.next (localWrite f s)) :=
  ⟨_, rfl, by rw [localWrite_pon hp]; exact hp, by rw [localWrite_pon hp]⟩

theorem unlessPon_tookNothing (f : State → State) : s.tookNothing (.next (unlessPon f s)) :=
  ⟨_, rfl, by rw [unlessPon_pon hp]; exact hp, by rw [unlessPon_pon hp]⟩

theorem lineChange_tookNothing {p : Pins} (t : State) (h : p.pon = true) :
    s.tookNothing (.next (if s.pins.pon then { s with pins := p } else t)) :=
  ⟨_, rfl, by simp [hp, h], by simp [hp]⟩

theorem exec_tookNothing {i : Instr} (hi : i ≠ .powerOnReset) (he : i ≠ .powerOnResetEnd) : s.tookNothing (exec i s) := by
  cases i with
  | powerOnReset => exact absurd rfl hi
  | powerOnResetEnd => exact absurd rfl he
  | hostApertureRead | streamDataRead => exact hostRead_tookNothing hp _
  | hostApertureWrite | streamDataWrite | moduleReset | powerRequest | eventEnable | stallLimit
  | negotiatedSettingWrite | hostEvent | streamStatus | endMessage | nextMessage | notePop => exact hostWrite_tookNothing hp _
  | faultPop w | openEntry w | closeEntry w | resumeEntry w | retarget w | setEditable w =>
    cases w
    · exact hostWrite_tookNothing hp _
    · exact localWrite_tookNothing hp _
  | registerWrite a =>
    cases a
    · exact hostWrite_tookNothing hp _
    · exact localWrite_tookNothing hp _
  | clearLost | moduleReady | remain | dormantConfirm | wake | datapathReset | notice | answerAccept | answerReject
  | localEvent | localMask | invalidateLines | freshness | grantPatience | yieldHonor | ringSettingWrite | inConsume
  | outProduce | indexRefusedClear | inStart | inStop | inRestart | inPop | outStart | outStop | outRestart | outMark
  | notePost | noteFullClear => exact localWrite_tookNothing hp _
  | lbgntAsserted | lbgntWithdrawal | lyldAsserted | lyldDeasserted | latnAssertion | latnDeassertion =>
    exact lineChange_tookNothing hp _ hp
  | lack | lerr | stallExpiry | ackLimitExpiry | holdExpiry | grantPatienceExpiry | lingerExpiry | freshnessExpiry
  | answerExpiry | requestBegin => exact unlessPon_tookNothing hp _

end

/-- Settles O6: every access, line change and expiry is behind a test of PON. -/
theorem nothingIsTakenDuringPowerOnReset : Obligations.NothingIsTakenDuringPowerOnReset := by
  intro s hp
  have next {t u : State} (h : t = u) : (.next t : Host.Outcome State Fault Refusal) = .next u := congrArg _ h
  refine ⟨fun i hi he => exec_tookNothing hp hi he, fun _ _ => next (hostRead_pon hp _), fun _ _ _ => next (hostWrite_pon hp _),
    fun _ => next (hostRead_pon hp _), fun _ => next (unlessPon_pon hp _), next (unlessPon_pon hp _),
    next (unlessPon_pon hp _), fun _ => next (localWrite_pon hp _), ?_⟩
  simp [hostRegisterRead, localRegisterRead, State.localOpen, State.lrst, State.hwait, State.hint, State.lint, State.lbreq,
    State.lurg, State.lpwr, State.hready, State.beatShown, hp]

/-! ### S1 (R163) -/

/-- Settles O9: by the five power states, a wake by its equation. -/
theorem powerRequestByPowerState : Obligations.PowerRequestByPowerState := by
  intro low s hc
  have taken : exec (.powerRequest low) s = .next ((s.reply .written).writePowerRequest low) :=
    congrArg Host.Outcome.next (hostWrite_taken hc _)
  have wake : s.power.state = .dormant → ((s.reply .written).setPowerLow low).notice1.wakeBy .hostRequest = _ :=
    fun h => ((wakeBy_cases .hostRequest ((s.reply .written).setPowerLow low).notice1).resolve_left fun hn => hn.1 h).2
  intro stored moved
  rw [taken]
  unfold State.writePowerRequest
  refine ⟨?_, fun h => ?_, fun h => ?_, fun h => ?_⟩
  · rintro (h | h) <;> simp only [State.reply, h] <;> rfl
  · simp only [State.reply, h]
    cases low <;> rfl
  · simp only [State.reply, h]
    cases low <;> rfl
  · have power : (s.reply .written).power.state = .dormant := h
    simp only [power, wake h]
    cases low <;> rfl

/-! ### The slide (R22) -/

/-- The local base one aperture size further, modulo 2^32 (R22). -/
theorem localBase_slid (ap : Aperture) :
    ap.slid.localBase = ap.localBase + BitVec.ofNat 32 (4096 * pageCount ap.size) := by
  apply BitVec.eq_of_toNat_eq
  simp only [Aperture.slid, Aperture.localBase, BitVec.toNat_add, BitVec.toNat_append, BitVec.toNat_ofNat,
    Nat.shiftLeft_eq, Nat.or_zero, Nat.zero_mod]
  omega

/-- Settles O17: by the test of a slide. -/
theorem slideAtTheFinalWord : Obligations.SlideAtTheFinalWord := by
  intro e word s l hl final
  refine ⟨fun h => ?_, fun h => ?_⟩
  · refine ⟨{ l with ap := l.ap.slid, slideCount := l.slideCount + 1 }, ?_, rfl, localBase_slid l.ap, rfl⟩
    unfold State.slideAt
    rw [hl]
    exact if_pos h
  · unfold State.slideAt
    rw [hl]
    exact if_neg h

/-! ### Registers that clear, post and pop -/

/-- Settles O34: by the four writes. -/
theorem writingOneClears : Obligations.WritingOneClears :=
  ⟨fun _ _ hc => congrArg Host.Outcome.next (hostWrite_taken hc _),
    fun _ _ hc => congrArg Host.Outcome.next (localWrite_taken hc _),
    fun _ _ hc => congrArg Host.Outcome.next (localWrite_taken hc _),
    fun _ _ hc => congrArg Host.Outcome.next (hostWrite_taken hc _)⟩

/-- Settles O36: by the length of the list, and by its head. -/
theorem notesAndFaultsPoppedAndPosted : Obligations.NotesAndFaultsPoppedAndPosted := by
  have loc {f : State → State} {s t : State} (hc : s.localCanAct) (h : f s = t) :
      (.next (localWrite f s) : Host.Outcome State Fault Refusal) = .next t := by rw [localWrite_taken hc, h]
  have host {f : State → State} {s t : State} (hc : s.hostCanAct) (h : f (s.reply .written) = t) :
      (.next (hostWrite f s) : Host.Outcome State Fault Refusal) = .next t := by rw [hostWrite_taken hc, h]
  have pop (w : Window) (s : State) :
      (s.faults.queue = [] → s.popFault w = s.popResult w .empty) ∧
      (∀ head rest, s.faults.queue = head :: rest →
        s.popFault w = ({ s with faults := { s.faults with queue := rest } } : State).popResult w .ok) := by
    unfold State.popFault
    exact ⟨fun h => by rw [h], fun _ _ h => by rw [h]⟩
  intro s
  refine ⟨fun c hc => ⟨fun h => loc hc (if_pos h), fun h => loc hc (if_neg (Nat.not_lt.2 h)), loc hc rfl, loc hc rfl⟩,
    fun hc => ⟨fun h => host hc ?_, fun head rest h => host hc ?_⟩, fun w hc => ?_⟩
  · have empty : (s.reply .written).events.notes = [] := h
    simp only [State.popNote, empty]
    rfl
  · have notes : (s.reply .written).events.notes = head :: rest := h
    simp only [State.popNote, notes]
    rfl
  · cases w with
    | host =>
      obtain ⟨empty, some⟩ := pop .host (s.reply .written)
      refine ⟨fun h => host hc ((empty h).trans ?_), fun head rest h => host hc ((some head rest h).trans rfl)⟩
      rw [← h]
      rfl
    | loc =>
      obtain ⟨empty, some⟩ := pop .loc s
      refine ⟨fun h => loc hc ((empty h).trans ?_), fun head rest h => loc hc ((some head rest h).trans rfl)⟩
      rw [← h]
      rfl

end Sys2Proof.Machine

/-! SUPPORT and PROOFS. The resets and the power commands (R161 to R173), and the table commands OPEN, CLOSE and
SET_EDITABLE (R5 to R7, R10, R14). -/

namespace Sys2Proof.Machine

theorem next_localWrite {f : State → State} {s t : State} (hc : s.localCanAct) (h : f s = t) :
    (.next (localWrite f s) : Host.Outcome State Fault Refusal) = .next t := by
  rw [localWrite_taken hc, h]

theorem next_hostWrite {f : State → State} {s t : State} (hc : s.hostCanAct) (h : f (s.reply .written) = t) :
    (.next (hostWrite f s) : Host.Outcome State Fault Refusal) = .next t := by
  rw [hostWrite_taken hc, h]

theorem next_hostRead {f : State → State} {s t : State} (hc : s.hostCanAct) (h : f s = t) :
    (.next (hostRead f s) : Host.Outcome State Fault Refusal) = .next t := by
  rw [hostRead_taken hc, h]

/-! ### The module reset (R171) -/

/-- The arbiter and the bus settings after a module reset (R82). -/
theorem resetMaster_settings (s : State) :
    s.resetMaster.master.run = 0 ∧ s.resetMaster.master.lastStream = .outbound ∧ s.resetMaster.master.ackLimit = 32 ∧
      s.resetMaster.master.grantPatience = 0 ∧ s.resetMaster.master.yieldHonor = true := by
  unfold State.resetMaster
  simp only
  split <;> exact ⟨rfl, rfl, rfl, rfl, rfl⟩

/-- The ownership after a module reset (R82). -/
theorem resetMaster_ownership (s : State) :
    (∀ x, s.master.transfer = some x → s.resetMaster.master.transfer = some { x with discard := true } ∧
      s.resetMaster.master.own = .yielding .yielded) ∧
    (s.master.transfer = none → s.resetMaster.master.transfer = none ∧ s.resetMaster.master.own = .released ∧
      s.resetMaster.master.releaseMark = if s.master.own = .released then s.master.releaseMark else some s.now) := by
  refine ⟨fun x hx => ?_, fun hx => ?_⟩
  · simp only [State.resetMaster, hx, and_self]
  · simp only [State.resetMaster, hx, State.releaseIfAsked]
    split
    next ho => exact ⟨hx, ho, rfl⟩
    next => exact ⟨hx, rfl, rfl⟩

/-- Settles O7: by the old and the new value, and by the transfer in flight. -/
theorem moduleResetWriteByOldValue : Obligations.ModuleResetWriteByOldValue := by
  intro s hc
  have written (v : Bool) : exec (.moduleReset v) s = .next ((s.reply .written).writeModuleReset v) :=
    next_hostWrite hc rfl
  refine ⟨written false, fun h => ?_, fun h => ?_⟩
  · have held : (s.reply .written).settings.moduleReset = true := h
    rw [written]
    simp only [State.writeModuleReset, held]
    rfl
  · have frame := resetMaster_frame (s.reply .written)
    have pins : (s.reply .written).resetMaster.pins = s.pins := (congrArg State.pins frame :)
    have now : (s.reply .written).resetMaster.now = s.now := (congrArg State.now frame :)
    have pending : (s.reply .written).resetMaster.pending = s.pending := (congrArg State.pending frame :)
    have reply : (s.reply .written).resetMaster.hostReply = .written := (congrArg State.hostReply frame :)
    obtain ⟨run, last, ack, patience, honor⟩ := resetMaster_settings (s.reply .written)
    obtain ⟨carried, idle⟩ := resetMaster_ownership (s.reply .written)
    have old : ¬ (s.reply .written).settings.moduleReset = true := by
      show ¬ s.settings.moduleReset = true
      simp [h]
    have reset : (s.reply .written).writeModuleReset true = (s.reply .written).moduleResetBegin := by
      unfold State.writeModuleReset
      rw [if_pos rfl, if_neg old]
    have lrst : (s.reply .written).moduleResetBegin.lrst = true := by
      obtain ⟨pon, _⟩ := hc
      have level : (s.reply .written).moduleResetBegin.pins.pon = false := (congrArg Pins.pon pins).trans pon
      unfold State.lrst
      rw [level]
      rfl
    have starting : (s.reply .written).moduleResetBegin.power.state = .starting := rfl
    refine ⟨_, (written true).trans (congrArg _ reset), fun e => ?_, rfl, rfl, rfl, rfl, rfl, rfl, rfl, rfl, rfl, rfl, run,
      last, ack, patience, honor, carried, idle, rfl, rfl, rfl, rfl, rfl, rfl, rfl, pins, now, pending, reply, lrst,
      by simp [State.hready, starting], by simp [State.lpwr, starting]⟩
    exact Vector.getElem_replicate ..

/-! ### DATAPATH_RESET (R172, R173) -/

/-- A datapath reset carried out as one equation. -/
theorem carryOut_eq (s : State) : s.carryOut = { s with
    table := s.table.clearEntries
    pwq := Pwq.reset
    slot := ReadSlot.reset
    lineset := s.lineset.clearLines
    master := { s.master with
      own := .released, run := 0, lastStream := .outbound
      releaseMark := if s.master.own = .released then s.master.releaseMark else some s.now }
    stall := none
    faults := { s.faults with queue := [], lost := 0 }
    inb := s.inb.clear
    outb := s.outb.clear
    stream := s.stream.clearFlags
    power := { s.power with resetBusy := false }
    hostReply := s.resetReply
    events := { s.events with loc := { s.events.loc with datapathDone := true } } } := by
  unfold State.carryOut State.releaseIfAsked
  by_cases h : s.master.own = .released
  · have kept : s.master.clearArbiter = { s.master with
        own := .released, run := 0, lastStream := .outbound, releaseMark := s.master.releaseMark } := by
      rw [← h]
      rfl
    simp only [if_pos h, kept]
    rfl
  · simp only [if_neg h]
    rfl

/-- Settles O8: by the status, by the transfer in flight, and by the holder of the host. -/
theorem datapathResetByStatusAndTransfer : Obligations.DatapathResetByStatusAndTransfer := by
  intro s hc
  have taken : exec .datapathReset s = .next s.takeDatapathReset := next_localWrite hc rfl
  rw [taken]
  refine ⟨fun hb => ?_, fun x hb hx => ?_, fun hb hx => ?_⟩
  · simp only [State.takeDatapathReset, if_pos hb]
    rfl
  · simp only [State.takeDatapathReset, hb, hx, State.discardTransfer]
    rfl
  · have done : s.takeDatapathReset = s.carryOut.resetResult .ok := by simp [State.takeDatapathReset, hb, hx]
    rw [carryOut_eq] at done
    refine ⟨_, congrArg _ done, fun e => Vector.getElem_replicate .., rfl, rfl, rfl, rfl, rfl, rfl, rfl, rfl, rfl, rfl, rfl, rfl, ?_, rfl, rfl,
      rfl, fun h => ?_, fun hs ho h => ?_, fun h => ?_⟩
    · rw [← hb]
      rfl
    · simp only [State.resetResult, State.resetReply, Bool.or_eq_true, if_pos h]
      rfl
    · have held : s.hostHeld = true := by
        rcases h with h | h <;> simp [State.hostHeld, h]
      simp [State.resetResult, State.resetReply, hs, ho, held]
    · obtain ⟨_, hs, _, ho⟩ := (not_held_iff s).1 h
      simp [State.resetResult, State.resetReply, hs, ho, h]

end Sys2Proof.Machine

/-! SUPPORT and PROOFS. The power commands (R162, R165 to R168, R180) and the table commands OPEN, CLOSE and SET_EDITABLE
(R5 to R7, R10, R14). -/

namespace Sys2Proof.Machine

/-! ### MODULE_READY, REMAIN, DORMANT_CONFIRM and WAKE -/

/-- A MODULE_READY that is taken makes the module Active, or Quiescing while S1 is 1 (R162, R168). -/
theorem becomeReady_ok (s : State) (a b : Bool) :
    (s.storeWake a b).becomeReady.powerResult .ok = { s with
      power := { s.power with
        state := if s.settings.powerLow then .quiescing else .active,
        wakeOnAccess := a, wakeOnAttention := b, result := .ok }
      events := { s.events with
        host := { s.events.host with power := true },
        loc := { s.events.loc with quiesce := s.events.loc.quiesce || s.settings.powerLow } } } := by
  have low : (s.storeWake a b).settings.powerLow = s.settings.powerLow := rfl
  simp only [State.becomeReady, low]
  cases s.settings.powerLow <;> simp [State.quiesce, State.setPower, State.latchPower, State.latchQuiesce,
    State.storeWake, State.powerResult]

/-- A power command's result beside the wake settings it stores (R180). -/
theorem powerResult_storeWake (s : State) (a b : Bool) (r : Result) :
    (s.storeWake a b).powerResult r =
      { s with power := { s.power with wakeOnAccess := a, wakeOnAttention := b, result := r } } := rfl

theorem takeReady_taken {s : State} (a b : Bool) (h : s.power.state = .starting ∨ s.power.state = .waking) :
    (s.storeWake a b).takeReady = ((s.storeWake a b).becomeReady.powerResult .ok).poll := by
  have state : (s.storeWake a b).power.state = s.power.state := rfl
  rcases h with h | h <;> simp only [State.takeReady, state, h]

theorem takeReady_refused {s : State} (a b : Bool)
    (h : s.power.state = .active ∨ s.power.state = .quiescing ∨ s.power.state = .dormant) :
    (s.storeWake a b).takeReady = (s.storeWake a b).powerResult .badState := by
  have state : (s.storeWake a b).power.state = s.power.state := rfl
  rcases h with h | h | h <;> simp only [State.takeReady, state, h]

/-- Settles O10: by the five power states, and by S1. -/
theorem moduleReadyByPowerState : Obligations.ModuleReadyByPowerState := by
  intro a b s hc
  have taken : exec (.moduleReady a b) s = .next (s.storeWake a b).takeReady := next_localWrite hc rfl
  refine ⟨fun h => ?_, fun h => ?_⟩
  · rw [taken, takeReady_taken a b h, becomeReady_ok]
  · rw [taken, takeReady_refused a b h, powerResult_storeWake]

/-- Settles O11: by the power state, and by the drain test. -/
theorem remainConfirmAndWakeByPowerState : Obligations.RemainConfirmAndWakeByPowerState := by
  intro a b s hc answered drained
  have remain : exec (.remain a b) s = .next (s.storeWake a b).takeRemain := next_localWrite hc rfl
  have confirm : exec (.dormantConfirm a b) s = .next (s.storeWake a b).takeConfirm := next_localWrite hc rfl
  have wake : exec (.wake a b) s = .next (s.storeWake a b).takeWake := next_localWrite hc rfl
  have test : (s.storeWake a b).drained = true ↔ drained := drained_iff (s.storeWake a b)
  refine ⟨fun h => ?_, fun h => ?_, fun h hd => ?_, fun h hd => ?_, fun h => ?_, fun h => ?_, fun h => ?_⟩
  · have eq : (s.storeWake a b).takeRemain = _ := if_pos h
    exact remain.trans (congrArg _ eq)
  · have eq : (s.storeWake a b).takeRemain = _ := if_neg h
    exact remain.trans (congrArg _ eq)
  · have eq : (s.storeWake a b).takeConfirm = _ := (if_pos h).trans (if_pos (test.2 hd))
    exact confirm.trans (congrArg _ eq)
  · have eq : (s.storeWake a b).takeConfirm = _ := (if_pos h).trans (if_neg (test.not.2 hd))
    exact confirm.trans (congrArg _ eq)
  · have eq : (s.storeWake a b).takeConfirm = _ := if_neg h
    exact confirm.trans (congrArg _ eq)
  · have woken := ((wakeBy_cases .loc (s.storeWake a b)).resolve_left fun hn => hn.1 h).2
    have eq : (s.storeWake a b).takeWake = _ := (if_pos h).trans (congrArg (State.powerResult .ok) woken)
    exact wake.trans (congrArg _ eq)
  · have eq : (s.storeWake a b).takeWake = _ := if_neg h
    exact wake.trans (congrArg _ eq)

/-! ### OPEN and SET_EDITABLE -/

theorem exec_openEntry (w : Window) (s : State) : exec (.openEntry w) s = .next (tableAccess w .openCmd s) := rfl

theorem exec_closeEntry (w : Window) (s : State) : exec (.closeEntry w) s = .next (tableAccess w .closeCmd s) := rfl

theorem exec_setEditable (w : Window) (s : State) :
    exec (.setEditable w) s = .next (tableAccess w .setEditableCmd s) := rfl

/-- The aperture that a staging record describes (R6). -/
def Staging.described (g : Staging) (a : Access) : Aperture :=
  { page := g.page, size := g.size, base := g.base, access := a, strict := g.strict, streaming := g.streaming,
    combine := g.combine, swapped := g.swapped, slide := g.slide, hold := g.hold }

theorem aperture_of_legal {g : Staging} {a : Access} (hs : g.size.toNat ≤ 8) (ha : accessOf g.access = some a) :
    g.aperture = some (g.described a) := by
  simp [Staging.aperture, Staging.described, ha, hs]

theorem aperture_of_illegal {g : Staging} (h : 8 < g.size.toNat ∨ accessOf g.access = none) : g.aperture = none := by
  unfold Staging.aperture
  split
  next a ha => exact if_neg (by simpa [ha] using h)
  next => rfl

theorem accessOf_eq_none {c : BitVec 2} : accessOf c = none ↔ c = 3#2 := by
  revert c
  decide

/-- OPEN's own checks of an EMPTY target and a legal record (R6). -/
theorem openResult_of_legal {s : State} {g : Staging} {a : Access} (hl : s.live g.target = none)
    (hs : g.size.toNat ≤ 8) (ha : accessOf g.access = some a) :
    s.openResult g =
      if g.page.toNat % 2 ^ g.size.toNat ≠ 0 then .misaligned else if s.overlaps (g.described a) then .overlap
      else .ok := by
  simp only [State.openResult, hl, aperture_of_legal hs ha]
  rfl

/-- The pages of a staging record's host range that an entry covers (R6). -/
theorem overlaps_described (s : State) (g : Staging) (a : Access) :
    s.overlaps (g.described a) = true ↔
      ∃ e, ∃ l ∈ s.live e, ∃ p, g.page.toNat ≤ p ∧ p < g.page.toNat + 2 ^ g.size.toNat ∧ l.ap.holdsPage p := by
  rw [overlaps_iff]
  simp only [Aperture.holdsPage, Staging.described, pageCount, and_assoc]

section
variable {w : Window} {s : State} (h : s.canCommand w) (hb : s.power.resetBusy = false) (he : s.mayEdit w)
include h hb he

theorem open_turned {r : Result} (hr : s.openResult (s.staging w) = r) (hne : r ≠ .ok) :
    exec (.openEntry w) s = .next (s.tableDone w r) := by
  have own : s.tableCmdResult w .openCmd = r := (tableCmdResult_own hb he (by decide)).trans hr
  rw [exec_openEntry, tableAccess_turned h own hne]

theorem close_turned {r : Result} (hr : s.closeResult (s.staging w).target = r) (hne : r ≠ .ok) :
    exec (.closeEntry w) s = .next (s.tableDone w r) := by
  have own : s.tableCmdResult w .closeCmd = r := (tableCmdResult_own hb he (by decide)).trans hr
  rw [exec_closeEntry, tableAccess_turned h own hne]

end

/-- Settles O12: an OPEN by its checks' results, SET_EDITABLE by the entry it stores. -/
theorem openAndSetEditableTaken : Obligations.OpenAndSetEditableTaken := by
  refine ⟨?_, fun s hc hb => ?_⟩
  · intro w s a hc hb hm g hl hs ha halign hapart
    have apart : ¬ s.overlaps (g.described a) = true := by
      rw [overlaps_described]
      rintro ⟨e, l, hl, p, hlo, hhi, hp⟩
      exact hapart e l hl p hlo hhi hp
    have result : s.openResult g = .ok := by
      rw [openResult_of_legal hl hs ha, if_neg (not_not.2 halign), if_neg apart]
    have own : s.tableCmdResult w .openCmd = .ok := (tableCmdResult_own hb hm (by decide)).trans result
    have stored (r : State) : r.openEffect g = r.setLive g.target (some (openedEntry (g.described a))) := by
      simp [State.openEffect, aperture_of_legal hs ha]
    have effect : s.tableEffect w .openCmd = s.setLive g.target (some (openedEntry (g.described a))) := stored s
    have replied : (s.reply .written).tableEffect w .openCmd = (s.tableEffect w .openCmd).reply .written := by
      rw [effect]
      exact stored (s.reply .written)
    rw [exec_openEntry, tableAccess_done hc own replied, effect]
    rfl
  · have own : s.tableCmdResult .loc .setEditableCmd = .ok := by
      simp [State.tableCmdResult, State.tableRightsResult, hb]
    have done : exec (.setEditable .loc) s =
        .next ((s.setEditableEffect s.table.localStage.target s.table.localStage.editable).tableResult .loc .ok) := by
      rw [exec_setEditable, tableAccess_taken (w := .loc) hc own]
      rfl
    refine ⟨_, done, fun e => live_setEditable s _ e _, fun e => ?_, rfl, rfl⟩
    by_cases he : e = s.table.localStage.target
    · subst he
      simp [State.tableResult, State.setEditableEffect]
    · have : ¬ s.table.localStage.target.val = e.val := fun hv => he (Fin.ext hv.symm)
      simp [State.tableResult, State.setEditableEffect, he, this]

/-- Settles O13: by the checks in their order. -/
theorem tableCommandsTurnedAway : Obligations.TableCommandsTurnedAway := by
  intro w s hc g turned
  have access (c : TableCmd) {r : Result} (hr : s.tableCmdResult w c = r) (hne : r ≠ .ok) :
      (.next (tableAccess w c s) : Host.Outcome State Fault Refusal) = .next (s.tableDone w r) := by
    rw [tableAccess_turned hc hr hne]
  refine ⟨fun hb i hi => ?_, fun hb => ⟨?_, fun hm i hi => ?_, fun hm => ⟨fun hl => ?_, fun hl hf => ?_,
    fun hl hs ha hp => ?_, fun hl hs ha hp ho => ?_⟩⟩⟩
  · have busy (c : TableCmd) : s.tableCmdResult w c = .busy := by
      simp [State.tableCmdResult, State.tableRightsResult, hb]
    simp only [List.mem_cons, List.not_mem_nil, or_false] at hi
    rcases hi with rfl | rfl | rfl | rfl | rfl <;> exact access _ (busy _) nofun
  · rintro rfl
    exact access .setEditableCmd (r := .notPermitted) (by simp [State.tableCmdResult, State.tableRightsResult, hb]) nofun
  · have denied {c : TableCmd} (hne : c ≠ .setEditableCmd) : s.tableCmdResult w c = .notPermitted := by
      cases w with
      | loc => exact absurd trivial hm
      | host =>
        have rights : ¬ (s.tableRights && s.table.entries[(s.staging .host).target].editable) = true := by
          simpa [State.mayEdit, State.tableRights, State.staging] using hm
        have denied : s.tableRightsResult .host c = .notPermitted := by
          simp only [State.tableRightsResult, hb, if_neg hne, if_neg rights]
          rfl
        simp only [State.tableCmdResult, denied]
    simp only [List.mem_cons, List.not_mem_nil, or_false] at hi
    rcases hi with rfl | rfl | rfl | rfl
    · exact access .openCmd (denied nofun) nofun
    · exact access .closeCmd (denied nofun) nofun
    · exact access .resumeCmd (denied nofun) nofun
    · exact access .retargetCmd (denied nofun) nofun
  · obtain ⟨l, hl⟩ := Option.ne_none_iff_exists'.1 hl
    exact open_turned hc hb hm (r := .badState) (by simp only [State.openResult, g, hl] at *) nofun
  · have illegal : g.aperture = none := aperture_of_illegal (hf.imp_right accessOf_eq_none.2)
    exact open_turned hc hb hm (r := .badField) (by simp only [State.openResult, g, hl, illegal] at *) nofun
  · obtain ⟨a, access⟩ := Option.ne_none_iff_exists'.1 (accessOf_eq_none.not.2 ha)
    exact open_turned hc hb hm (r := .misaligned) ((openResult_of_legal hl hs access).trans (if_pos hp)) nofun
  · obtain ⟨a, access⟩ := Option.ne_none_iff_exists'.1 (accessOf_eq_none.not.2 ha)
    refine open_turned hc hb hm (r := .overlap) ((openResult_of_legal hl hs access).trans ?_) nofun
    rw [if_neg (not_not.2 hp), if_pos ((overlaps_described s g a).2 ho)]

/-! ### CLOSE -/

/-- What an accepted CLOSE leaves of an entry (R7); a write of it that waits adds to the refused count (R14). -/
def State.leftOf (s : State) (e : EntryIdx) (l : LiveEntry) : Option LiveEntry :=
  if l.phase = .opened ∧ s.hasRecord e = true then
    some (if s.slotWaiting e then { l with phase := .draining, refused := satInc l.refused }
      else { l with phase := .draining })
  else none

/-- The write of the entry that waits is discarded and its host released (R14). -/
def State.dropWaiting (e : EntryIdx) (s : State) : State :=
  if s.slotWaiting e then { s with pwq := { s.pwq with held := .none }, hostReply := .written, stall := none } else s

theorem slotWaiting_iff (s : State) (e : EntryIdx) :
    s.slotWaiting e = true ↔ ∃ q, s.pwq.held = .slotWait q ∧ q.entry = e := by
  unfold State.slotWaiting
  split <;> simp_all

theorem setLive_setLive (s : State) (e : EntryIdx) (o o' : Option LiveEntry) :
    (s.setLive e o).setLive e o' = s.setLive e o' := by
  simp [State.setLive, Vector.set_set]

theorem endWaitingOf_of_not {s : State} {e : EntryIdx} (h : ¬ s.slotWaiting e = true) : s.endWaitingOf e = s := by
  unfold State.endWaitingOf
  split
  next q hq => exact if_neg fun he => h ((slotWaiting_iff s e).2 ⟨q, hq, he⟩)
  next => rfl
  next => rfl

theorem endWaitingOf_waiting {s : State} {e : EntryIdx} (h : s.slotWaiting e = true) :
    s.endWaitingOf e = (s.dropWaiting e).countRefused e := by
  obtain ⟨q, hq, he⟩ := (slotWaiting_iff s e).1 h
  have drop : s.dropWaiting e = (s.setHeld .none).releaseHost .written := if_pos h
  rw [drop]
  simp only [State.endWaitingOf, hq, he, if_true, State.endWaiting]

/-- An accepted CLOSE in one piece (R7, R14). -/
theorem closeEffect_eq {s : State} {e : EntryIdx} {l : LiveEntry} (hl : s.live e = some l) :
    s.closeEffect e = ((s.setLive e (s.leftOf e l)).strikeEntry e).dropWaiting e := by
  have branch (p : Prop) [Decidable p] (o o' : Option LiveEntry) :
      (if p then s.setLive e o else s.setLive e o') = s.setLive e (if p then o else o') := by
    split <;> rfl
  have effect : s.closeEffect e = (((s.setLive e (if l.phase = .opened ∧ s.hasRecord e = true then
      some { l with phase := .draining } else none)).strikeEntry e).endWaitingOf e) := by
    simp only [State.closeEffect, hl, branch]
  rw [effect]
  by_cases hw : s.slotWaiting e = true
  · have drop (o : Option LiveEntry) : ((s.setLive e o).strikeEntry e).dropWaiting e =
        ((s.strikeEntry e).dropWaiting e).setLive e o := by
      have h1 : ((s.setLive e o).strikeEntry e).slotWaiting e = true := hw
      have h2 : (s.strikeEntry e).slotWaiting e = true := hw
      simp only [State.dropWaiting, h1, h2, if_true]
      rfl
    rw [endWaitingOf_waiting (s := (s.setLive e _).strikeEntry e) hw, drop, drop]
    by_cases hd : l.phase = .opened ∧ s.hasRecord e = true
    · rw [if_pos hd, countRefused_of_live (l := { l with phase := .draining }) (live_setLive_self ..) nofun,
        setLive_setLive]
      simp [State.leftOf, hd, hw]
    · rw [if_neg hd]
      simp [State.leftOf, hd, State.countRefused]
  · have drop (o : Option LiveEntry) : ((s.setLive e o).strikeEntry e).dropWaiting e =
        (s.setLive e o).strikeEntry e := if_neg hw
    rw [drop, endWaitingOf_of_not (s := (s.setLive e _).strikeEntry e) hw]
    simp [State.leftOf, hw]

/-- CLOSE does not read the answer that the host's write gets. -/
theorem closeEffect_reply {s : State} {e : EntryIdx} {l : LiveEntry} (hl : s.live e = some l) :
    (s.reply .written).closeEffect e = (s.closeEffect e).reply .written := by
  have drop (r : State) : (r.reply .written).dropWaiting e = (r.dropWaiting e).reply .written := by
    have same : (r.reply .written).slotWaiting e = r.slotWaiting e := rfl
    unfold State.dropWaiting
    rw [same]
    split <;> rfl
  rw [closeEffect_eq (s := s.reply .written) hl, closeEffect_eq hl]
  exact drop ((s.setLive e (s.leftOf e l)).strikeEntry e)

/-- Settles O14: by the entry's state, then field by field. -/
theorem closeByStateAndRecords : Obligations.CloseByStateAndRecords := by
  intro w s hc hb hm e
  refine ⟨fun hl => ?_, fun l hl hp => ?_, fun l hl hp => ?_⟩
  · exact close_turned hc hb hm (r := .badState) (by simp only [State.closeResult, e, hl] at *) nofun
  · exact close_turned hc hb hm (r := .badState) (by simp only [State.closeResult, e, hl, hp, if_true] at *) nofun
  · have result : s.closeResult e = .ok := by simp only [State.closeResult, hl, hp, if_false]
    have own : s.tableCmdResult w .closeCmd = .ok := (tableCmdResult_own hb hm (by decide)).trans result
    have done : exec (.closeEntry w) s =
        .next ((((s.setLive e (s.leftOf e l)).strikeEntry e).dropWaiting e).tableDone w .ok) := by
      have replied : (s.reply .written).tableEffect w .closeCmd = (s.tableEffect w .closeCmd).reply .written :=
        closeEffect_reply hl
      rw [exec_closeEntry, tableAccess_done hc own replied, ← closeEffect_eq hl]
      rfl
    have table : (((s.setLive e (s.leftOf e l)).strikeEntry e).dropWaiting e).table =
        (s.setLive e (s.leftOf e l)).table := by
      unfold State.dropWaiting
      split <;> rfl
    have lines : (((s.setLive e (s.leftOf e l)).strikeEntry e).dropWaiting e).lineset =
        s.lineset.strikeIf (fun m => m.filledBy e) := by
      unfold State.dropWaiting
      split <;> rfl
    have waiting := slotWaiting_iff s e
    have live : (((s.setLive e (s.leftOf e l)).strikeEntry e).dropWaiting e).live e = s.leftOf e l := by
      unfold State.live
      rw [table]
      exact live_setLive_self s e _
    have drains : (l.phase = .opened ∧ s.hasRecord e = true) ↔ (l.phase = .opened ∧ ∃ r ∈ s.pwq.records, r.entry = e) :=
      and_congr_right fun _ => hasRecord_iff s e
    refine ⟨_, done, fun hd => ?_, fun hd hw => ?_, fun hd hw => ?_, fun f hf => ?_, ?_, fun i => ?_, fun hw => ?_,
      fun hw => ?_, ?_, ?_, ?_⟩
    · exact live.trans (if_neg (drains.not.2 hd))
    · rw [live, State.leftOf, if_pos (drains.2 hd), if_neg (waiting.not.2 hw)]
    · rw [live, State.leftOf, if_pos (drains.2 hd), if_pos (waiting.2 hw)]
    · rw [table]
      exact entries_setLive_ne s _ hf
    · rw [table]
      exact editable_setLive s e _
    · rw [lines, strikeIf_line]
      simp [Line.filledBy]
    · have drop : ((s.setLive e (s.leftOf e l)).strikeEntry e).dropWaiting e = _ := if_pos (waiting.2 hw)
      rw [drop]
      exact ⟨rfl, rfl, rfl⟩
    · have drop : ((s.setLive e (s.leftOf e l)).strikeEntry e).dropWaiting e = _ := if_neg (waiting.not.2 hw)
      rw [drop]
      exact ⟨rfl, rfl, rfl⟩
    · rw [lines]
      rfl
    · rw [lines]
      rfl
    · unfold State.dropWaiting
      split <;> rfl

end Sys2Proof.Machine

/-! SUPPORT and PROOFS. An admitted access through an aperture: its word and lanes (R20, R21), a write's admission and
waits (R29 to R31, R34), a read's hit or miss (R46, R47, R49). -/

namespace Sys2Proof.Machine

/-! ### Words and lanes (R20, R21) -/

/-- R20's word in numbers, for an access that the aperture covers. -/
theorem formsWord_of_covered {ap : Aperture} {ha : BitVec 23} {st : Strobes}
    (h : ap.holdsPage ((hostAddress ha st).toNat / 4096)) :
    ap.formsWord ha st (hostAddress ha st) (wordOf (ap.localByte (hostAddress ha st))) := by
  refine ⟨hostAddress_toNat ha st, ?_⟩
  rw [wordOf_toNat, localByte_toNat h, hostAddress_toNat]

theorem lowLane_toNat (ha : BitVec 23) (swapped : Bool) : (lowLane ha swapped).toNat = (laneTable ha swapped).1 := by
  unfold lowLane laneTable
  rcases evenLane_cases ha with ⟨hn, he⟩ | ⟨hn, he⟩ <;> cases swapped <;> simp [hn, he]

theorem highLane_toNat (ha : BitVec 23) (swapped : Bool) : (highLane ha swapped).toNat = (laneTable ha swapped).2 := by
  unfold highLane laneTable
  rcases evenLane_cases ha with ⟨hn, he⟩ | ⟨hn, he⟩ <;> cases swapped <;> simp [hn, he]

theorem lanes_differ (ha : BitVec 23) (swapped : Bool) : (laneTable ha swapped).1 ≠ (laneTable ha swapped).2 := by
  unfold laneTable
  cases swapped <;> simp

theorem getLsbD_laneMask (k : BitVec 2) (j : Nat) : (laneMask k).getLsbD j = true ↔ j = k.toNat := by
  have hk := k.isLt
  unfold laneMask
  rw [BitVec.getLsbD_shiftLeft]
  simp
  omega

/-- The lanes of an access are those of its strobes (R21). -/
theorem readLanes_mask (ha : BitVec 23) (st : Strobes) (swapped : Bool) :
    lanesOf ha st swapped (readLanes ha st swapped).mask := by
  intro k
  rw [← lowLane_toNat, ← highLane_toNat]
  unfold ReadLanes.mask readLanes
  rw [BitVec.getLsbD_or]
  cases st.hlb <;> cases st.hub <;> simp [getLsbD_laneMask]

/-- A byte on its lane, and 0 on every other (R21, log entry 14). -/
theorem extract_onLane (b : Byte) (k : BitVec 2) {j : Nat} (hj : j < 4) :
    (onLane b k).extractLsb' (8 * j) 8 = if j = k.toNat then b else 0#8 := by
  have hk := k.isLt
  unfold onLane
  ext i hi
  rw [BitVec.getElem_extractLsb', BitVec.getLsbD_shiftLeft, BitVec.getLsbD_setWidth]
  by_cases hjk : j = k.toNat
  · have below : ¬ 8 * j + i < 8 * k.toNat := by omega
    have offset : 8 * j + i - 8 * k.toNat = i := by omega
    have inside : 8 * j + i < 32 := by omega
    have width : i < 32 := by omega
    rw [if_pos hjk, offset]
    simp [below, inside, width, hi]
  · rw [if_neg hjk]
    simp
    intro _ _ _
    exact BitVec.getLsbD_of_ge b _ (by omega)

theorem extract_laneByte (w : Word) (k : BitVec 2) : laneByte w k = w.extractLsb' (8 * k.toNat) 8 := by
  have hk := k.isLt
  unfold laneByte
  ext i hi
  simp [BitVec.getElem_extractLsb', Nat.add_comm]

/-- A write's bytes stand on the lanes of their strobes (R21). -/
theorem writeData_placed (ha : BitVec 23) (st : Strobes) (hd : Half) (swapped : Bool) :
    placesBytes ha st hd swapped (writeMask ha st swapped) (writeData ha st hd swapped) := by
  refine ⟨readLanes_mask ha st swapped, fun k hk => ?_⟩
  have low : (hd.setWidth 8 : Byte) = hd.extractLsb' 0 8 := by ext; simp [BitVec.getElem_extractLsb']
  have high : ((hd >>> 8).setWidth 8 : Byte) = hd.extractLsb' 8 8 := by ext; simp [BitVec.getElem_extractLsb']
  have differ := lanes_differ ha swapped
  unfold writeData
  rw [BitVec.extractLsb'_or, ← low, ← high]
  have placed (b : Byte) (l : BitVec 2) (on : Bool) : (if on then onLane b l else 0#32).extractLsb' (8 * k) 8 =
      if on = true ∧ k = l.toNat then b else 0#8 := by
    cases on
    · simp
    · simpa using extract_onLane b l hk
  rw [placed, placed, lowLane_toNat, highLane_toNat]
  by_cases hl : st.hlb = true ∧ k = (laneTable ha swapped).1
  · have : ¬ (st.hub = true ∧ k = (laneTable ha swapped).2) := fun h => differ (hl.2.symm.trans h.2)
    rw [if_pos hl, if_pos hl, if_neg this]
    simp
  · rw [if_neg hl, if_neg hl]
    simp

/-- A read's halves come back from the lanes of their strobes (R21, R49). -/
theorem readLanes_returned (ha : BitVec 23) (st : Strobes) (swapped : Bool) :
    returnsBytes ha st swapped (readLanes ha st swapped) := by
  refine ⟨readLanes_mask ha st swapped, fun w => ?_⟩
  have halves (x y : Byte) : (x ++ y).extractLsb' 0 8 = y ∧ (x ++ y).extractLsb' 8 8 = x := by
    constructor <;> ext i hi <;> rw [BitVec.getElem_extractLsb', BitVec.getLsbD_append] <;> simp [hi]
  have half (on : Bool) (l : BitVec 2) : (if on then some l else none).elim 0xFF#8 (laneByte w) =
      if on then w.extractLsb' (8 * l.toNat) 8 else 0xFF#8 := by
    cases on
    · rfl
    · exact extract_laneByte w l
  rw [← lowLane_toNat, ← highLane_toNat, ← half, ← half]
  exact halves ..

/-! ### An admitted write -/

theorem canCombine_iff (w : HostWrite) (t : WriteRecord) :
    canCombine w t = true ↔ w.combine = true ∧ w.strict = false ∧ t.entry = w.entry ∧ t.word = w.word ∧
      t.strict = false ∧ t.inFlight = false ∧ t.mask &&& w.mask = 0#4 := by
  simp [canCombine, and_assoc]

theorem place_combined {w : HostWrite} {s : State} {rs : List WriteRecord} (h : combineTail w s.pwq.records = some rs) :
    s.place w = some (({ s with pwq := { s.pwq with records := rs } } : State).admitted w) := by
  simp only [State.place, h]

theorem place_new {w : HostWrite} {s : State} (h : combineTail w s.pwq.records = none)
    (room : s.pwq.records.length < 16) :
    s.place w = some (({ s with pwq := { s.pwq with
      records := s.pwq.records ++ [newRecord w s.pwq.seq], seq := s.pwq.seq + 1 } } : State).admitted w) := by
  simp only [State.place, h]
  exact if_pos room

theorem place_full {w : HostWrite} {s : State} (h : combineTail w s.pwq.records = none)
    (full : 16 ≤ s.pwq.records.length) : s.place w = none := by
  simp only [State.place, h]
  exact if_neg (Nat.not_lt.2 full)

/-- The line cause of a word (R54), case by case. -/
theorem strike_covered (word : Word) (l : Line) :
    (if l.covers word then l.strike else l) =
      match (motive := Line → Line) l with
      | .invalid => .invalid
      | .filling b e a => .filling (b || decide (a = word &&& 0xFFFFFFE0#32)) e a
      | .valid e a d t => if a = word &&& 0xFFFFFFE0#32 then .invalid else .valid e a d t := by
  cases l with
  | invalid => rfl
  | filling b e a => by_cases h : a = word &&& 0xFFFFFFE0#32 <;> simp [Line.covers, Line.addr?, Line.strike, lineAddr, h]
  | valid e a d t => by_cases h : a = word &&& 0xFFFFFFE0#32 <;> simp [Line.covers, Line.addr?, Line.strike, lineAddr, h]

section
variable {ha : BitVec 23} {st : Strobes} {s : State} {e : EntryIdx} {l : LiveEntry}
  (hc : s.hostCanAct) (hst : anyStrobe st = true) (hp : s.power.state = .active) (hb : s.power.resetBusy = false)
  (hlaw : s.apertureLaw) (hl : s.live e = some l) (ho : l.phase = .opened)
  (hpage : l.ap.holdsPage ((hostAddress ha st).toNat / 4096))
include hp hb hlaw hl ho hpage

theorem classify_admitted {d : Direction} (hperm : l.ap.permits d = true) :
    s.classify (hostAddress ha st) d = .admitted e l.ap := by
  rw [classify_covered ((serving_iff s).2 ⟨hp, hb⟩) hlaw hl hpage, if_neg (not_not.2 ho), if_pos hperm]

include hc hst

/-- An admitted write reaches the queue with the answer given (R28, R29). -/
theorem admittedWrite {hd : Half} (hperm : l.ap.permits .write = true) :
    exec (.hostApertureWrite ha st hd) s =
      .next ((s.reply .written).offerWrite (hostWriteOf ha st hd e l.ap)).poll := by
  have admitted := classify_admitted hp hb hlaw hl ho hpage hperm
  rw [exec_hostApertureWrite, hostWrite_taken hc, State.apertureWrite, if_pos hst, classify_reply, admitted]

/-- An admitted read reaches the lines (R46). -/
theorem admittedRead (hperm : l.ap.permits .read = true) :
    exec (.hostApertureRead ha st) s = .next (s.offerRead (readOf ha st e l.ap s.linePermit)).poll := by
  have admitted := classify_admitted hp hb hlaw hl ho hpage hperm
  rw [exec_hostApertureRead, hostRead_taken hc, State.apertureRead, if_pos hst, admitted]

end

/-- Settles O18: a combined write and a new record by `place_cases`. -/
theorem postedWriteAdmitted : Obligations.PostedWriteAdmitted := by
  refine ⟨?_, ?_⟩
  · intro word s struck
    have eq (l : Line) : (if l.covers word then l.strike else l) = struck l :=
      (strike_covered word l).trans (by cases l <;> rfl)
    simp only [State.strikeWord, LineSet.strikeIf, eq]
  · intro ha st hd s e l hc hst hp hb hlaw hl ho hpage hperm hstrict word mask data admitted combines
    have taken := admittedWrite (hd := hd) hc hst hp hb hlaw hl ho hpage hperm
    have combine_iff (t : WriteRecord) : canCombine (hostWriteOf ha st hd e l.ap) t = true ↔ combines t := by
      rw [canCombine_iff]
      simp only [hostWriteOf, hstrict, combines, true_and]
      rfl
    have posted {u : State} (h : (s.reply .written).place (hostWriteOf ha st hd e l.ap) = some u) :
        (s.reply .written).offerWrite (hostWriteOf ha st hd e l.ap) = u := by
      simp only [State.offerWrite, h]
      exact if_neg (by simp [hostWriteOf, hstrict])
    refine ⟨formsWord_of_covered hpage, writeData_placed .., fun older t ht hcomb => ?_, fun hno room => ?_⟩
    · have tail : combineTail (hostWriteOf ha st hd e l.ap) (s.reply .written).pwq.records = _ :=
        (congrArg _ ht).trans (combineTail_some _ older t ((combine_iff t).2 hcomb))
      rw [taken, posted (place_combined tail)]
      rfl
    · have tail : combineTail (hostWriteOf ha st hd e l.ap) (s.reply .written).pwq.records = none :=
        combineTail_none _ _ fun older t ht => Bool.eq_false_iff.2 fun h => hno older t ht ((combine_iff t).1 h)
      have fits : (s.reply .written).pwq.records.length < Config.pwqDepth := room
      rw [taken, posted (place_new tail fits)]
      simp only [State.admitted, newRecord, hostWriteOf, hstrict]
      rfl

/-- A slide changes the table only: it stands apart from what neither reads nor stores the entry. -/
theorem slideAt_apart {f : State → State} {e : EntryIdx} (hlive : ∀ s, (f s).live e = s.live e)
    (hset : ∀ o s, f (s.setLive e o) = (f s).setLive e o) (word : Word) (s : State) :
    f (s.slideAt e word) = (f s).slideAt e word := by
  unfold State.slideAt
  rw [hlive]
  cases s.live e with
  | none => rfl
  | some l =>
    by_cases hs : l.phase = .opened ∧ l.ap.slide = true ∧ word = l.ap.finalWord
    · simp only [if_pos hs, hset]
    · simp only [if_neg hs]

theorem slideAt_held (e : EntryIdx) (word : Word) (h : HeldWrite) (k : Holder) (s : State) :
    ((s.slideAt e word).setHeld h).holdHost k = ((s.setHeld h).holdHost k).slideAt e word :=
  slideAt_apart (f := fun s => (s.setHeld h).holdHost k) (fun _ => rfl) (fun _ _ => rfl) word s

/-- A STRICT write is admitted as a new record, which the host then waits for (R34). -/
theorem offerWrite_strict {w : HostWrite} {s : State} (hs : w.strict = true) (room : s.pwq.records.length < 16) :
    s.offerWrite w = ((({ s with pwq := {
      records := s.pwq.records ++ [newRecord w s.pwq.seq]
      seq := s.pwq.seq + 1
      held := .recordWait s.pwq.seq } } : State).holdHost .pwq).strikeWord w.word).slideAt w.entry w.word := by
  have tail : combineTail w s.pwq.records = none := combineTail_none _ _ fun _ t _ => by simp [canCombine, hs]
  simp only [State.offerWrite, place_new tail room, hs, if_true, State.admitted]
  exact slideAt_held ..

/-- Settles O19: a STRICT write takes a new record; a full queue keeps the write for a slot. -/
theorem writeHeldForItsRecordOrForASlot : Obligations.WriteHeldForItsRecordOrForASlot := by
  intro ha st hd s e l hc hst hp hb hlaw hl ho hpage hperm word mask data timed
  have taken := admittedWrite (hd := hd) hc hst hp hb hlaw hl ho hpage hperm
  refine ⟨formsWord_of_covered hpage, writeData_placed .., fun hstrict room => ?_, fun full hno => ?_⟩
  · have offered := offerWrite_strict (w := hostWriteOf ha st hd e l.ap) (s := s.reply .written) hstrict room
    rw [offered] at taken
    refine ⟨_, taken, ?_⟩
    simp only [newRecord, hostWriteOf, hstrict]
    rfl
  · have separate (older : List WriteRecord) (t : WriteRecord) (ht : s.pwq.records = older ++ [t]) :
        canCombine (hostWriteOf ha st hd e l.ap) t = false :=
      Bool.eq_false_iff.2 fun h => hno older t ht ((canCombine_iff _ t).1 h)
    have unplaced : (s.reply .written).place (hostWriteOf ha st hd e l.ap) = none :=
      place_full (combineTail_none _ _ separate) full
    rw [taken]
    simp only [State.offerWrite, unplaced]
    rfl

/-! ### An admitted read -/

theorem serves_of_valid {l : Line} {e : EntryIdx} {w : Word} {d : List Word} {t : Nat}
    (h : l = .valid e (lineAddr w) d t) : l.serves e w = some (d.getD ((w.toNat % 32) / 4) 0) := by
  rw [h]
  exact if_pos ⟨rfl, rfl⟩

theorem serves_eq_none {l : Line} {e : EntryIdx} {w : Word} (h : ¬ ∃ d t, l = .valid e (lineAddr w) d t) :
    l.serves e w = none := by
  cases l with
  | invalid => rfl
  | filling b f a => rfl
  | valid f a d t => exact if_neg fun hv => h ⟨d, t, by rw [hv.1, hv.2]⟩

theorem serves_eq (ls : LineSet) (e : EntryIdx) (w : Word) :
    ls.serves e w = ((ls.line 0).serves e w).or ((ls.line 1).serves e w) := by
  have line0 : ls.line 0 = ls.line0 := rfl
  have line1 : ls.line 1 = ls.line1 := rfl
  rw [line0, line1]
  unfold LineSet.serves
  cases ls.line0.serves e w <;> rfl

/-- The first line that serves a word is the one that answers a hit (R46). -/
theorem serves_first {ls : LineSet} {e : EntryIdx} {w : Word} {i : LineIdx} {d : List Word} {t : Nat}
    (hv : ls.line i = .valid e (lineAddr w) d t) (hfirst : i = 1 → ¬ ∃ d t, ls.line 0 = .valid e (lineAddr w) d t) :
    ls.serves e w = some (d.getD ((w.toNat % 32) / 4) 0) := by
  rw [serves_eq]
  rcases (by decide : ∀ i : LineIdx, i = 0 ∨ i = 1) i with rfl | rfl
  · rw [serves_of_valid hv, Option.some_or]
  · rw [serves_eq_none (hfirst rfl), Option.none_or]
    exact serves_of_valid hv

theorem serves_neither {ls : LineSet} {e : EntryIdx} {w : Word}
    (h : ¬ ((∃ d t, ls.line 0 = .valid e (lineAddr w) d t) ∨ ∃ d t, ls.line 1 = .valid e (lineAddr w) d t)) :
    ls.serves e w = none := by
  rw [serves_eq, serves_eq_none fun h0 => h (.inl h0), Option.none_or]
  exact serves_eq_none fun h1 => h (.inr h1)

/-- A read that hits is answered from the line and may slide the entry (R46, R49). -/
theorem offerRead_hit {r : ReadRecord} {s : State} {d : Word} (hk : r.kind = .line)
    (h : s.lineset.serves r.entry r.word = some d) :
    s.offerRead r = (s.reply (.read (r.lanes.answer d))).slideAt r.entry r.word := by
  simp only [State.offerRead, hk, if_true, h]

/-- A read that misses enters the slot and waits for order, or passes to BUS_WAIT at once (R47). -/
theorem offerRead_miss {r : ReadRecord} {s : State} (ho : r.phase = .orderWait)
    (h : r.kind = .line → s.lineset.serves r.entry r.word = none) :
    s.offerRead r = (s.setRead (some { r with phase :=
      if s.pwq.records = [] ∧ s.slot.orphan = none then .busWait else .orderWait })).holdHost .readSlot := by
  have missed (p : Prop) [Decidable p] (hp : p → r.kind = .line) :
      (if p then s.lineset.serves r.entry r.word else none) = none := by
    split
    next hpos => exact h (hp hpos)
    next => rfl
  have entered : s.offerRead r = ((s.setRead (some r)).holdHost .readSlot).testOrder := by
    simp only [State.offerRead, missed _ id]
  rw [entered]
  unfold State.testOrder
  have record : ((s.setRead (some r)).holdHost .readSlot).slot.record = some r := rfl
  have queue : ((s.setRead (some r)).holdHost .readSlot).pwq.records = s.pwq.records := rfl
  have orphan : ((s.setRead (some r)).holdHost .readSlot).slot.orphan = s.slot.orphan := rfl
  have lines : ((s.setRead (some r)).holdHost .readSlot).lineset = s.lineset := rfl
  simp only [record, queue, orphan, lines, ho, true_and]
  by_cases hq : s.pwq.records = [] ∧ s.slot.orphan = none
  · simp only [if_pos hq, missed _ And.left]
    rfl
  · simp only [if_neg hq, ← ho]

/-- Settles O20: a hit in either line, line 0 first, or a miss. -/
theorem admittedReadHitsOrEntersTheSlot : Obligations.AdmittedReadHitsOrEntersTheSlot := by
  intro ha st s e l hc hst hp hb hlaw hl ho hpage hperm word lanes mayHit holdsIt
  have taken := admittedRead hc hst hp hb hlaw hl ho hpage hperm
  have permit : s.linePermit = true ↔ s.settings.s7.accepted = 1#4 := decide_eq_true_iff
  have lineRead : (l.ap.streaming && s.linePermit) = true ↔ mayHit := by
    rw [Bool.and_eq_true, permit]
  refine ⟨formsWord_of_covered hpage, readLanes_returned .., rfl, fun i d t hm hv hfirst => ?_, fun hmiss => ?_⟩
  · have kind : (readOf ha st e l.ap s.linePermit).kind = .line := if_pos (lineRead.2 hm)
    rw [taken, offerRead_hit kind (serves_first hv hfirst)]
    rfl
  · have missed (hk : (readOf ha st e l.ap s.linePermit).kind = .line) : s.lineset.serves e word = none := by
      have hm : mayHit := lineRead.1 (by
        by_contra h
        exact absurd ((if_neg h).symm.trans hk) nofun)
      exact serves_neither (hmiss.resolve_left (not_not.2 hm))
    have kind : (readOf ha st e l.ap s.linePermit).kind = if mayHit then .line else .single :=
      if_congr lineRead rfl rfl
    rw [taken, offerRead_miss rfl missed]
    simp only [readOf] at kind ⊢
    rw [kind]
    rfl

end Sys2Proof.Machine

/-! SUPPORT and PROOFS. Stream Data accesses (R109, R119, R120), END (R114) and NEXT (R121). -/

namespace Sys2Proof.Machine

/-! ### Stream Data writes -/

/-- The bytes of a Stream Data write as halves of HD (R109). -/
theorem streamBytes_eq (st : Strobes) (hd : Half) :
    streamBytes st hd =
      (if st.hlb then [hd.extractLsb' 0 8] else []) ++ (if st.hub then [hd.extractLsb' 8 8] else []) := by
  have low : (hd.setWidth 8 : Byte) = hd.extractLsb' 0 8 := by ext; simp [BitVec.getElem_extractLsb']
  have high : ((hd >>> 8).setWidth 8 : Byte) = hd.extractLsb' 8 8 := by ext; simp [BitVec.getElem_extractLsb']
  unfold streamBytes
  rw [low, high]

/-- Accepted bytes in one piece: the discarding, then the entry, the drop or the hold (R109). -/
theorem acceptBytes_eq (bytes : List Byte) (s : State) :
    s.acceptBytes bytes =
      let entering := bytes.take (65535 - s.inb.msgLen)
      let s1 : State := { s with inb := { s.inb with
        damaged := s.inb.damaged || decide (entering.length < bytes.length) } }
      if entering.length ≤ 32 - s.inb.fifo.length then s1.enterBytes entering
      else if s.inb.drop then s1.dropBytes else (s1.setInb { s1.inb with held := some entering }).holdHost .inbound := by
  unfold State.acceptBytes
  by_cases h : (bytes.take (Config.maxMessage - s.inb.msgLen)).length < bytes.length
  · have h' : (bytes.take (65535 - s.inb.msgLen)).length < bytes.length := h
    simp only [h', decide_true, Bool.or_true]
    rfl
  · have h' : ¬ (bytes.take (65535 - s.inb.msgLen)).length < bytes.length := h
    simp only [h', decide_false, Bool.or_false]
    rfl

theorem served_iff (s : State) (p : Prop) [Decidable p] :
    (s.serving && decide p) = true ↔ p ∧ s.power.state = .active ∧ s.power.resetBusy = false := by
  rw [Bool.and_eq_true, serving_iff, decide_eq_true_iff]
  exact and_comm

/-- Settles O21: by the strobes, the service and the FIFO's room. -/
theorem streamWriteOutcomes : Obligations.StreamWriteOutcomes := by
  intro st hd s hc i done refused served bytes entering damaged
  have taken : exec i s = .next (State.streamWrite st hd done) := next_hostWrite hc rfl
  have served_iff := served_iff done (done.inb.state = .running)
  refine ⟨fun hst => ?_, fun hst hns => ?_, fun hst hs => ?_⟩
  · rw [taken, State.streamWrite, hst]
    rfl
  · have offered : State.streamWrite st hd done = refused.offerAccess :=
      (if_pos hst).trans (if_neg (served_iff.not.2 hns))
    refine ⟨fun hw => ?_, fun hp hw => ?_⟩
    · rw [taken, offered, offerAccess_no_wake (s := refused) hw]
    · rw [taken, offered, offerAccess_wakes (s := refused) hp hw]
  · have accepted : State.streamWrite st hd done = (done.acceptBytes bytes).poll :=
      ((if_pos hst).trans (if_pos (served_iff.2 hs))).trans
        (congrArg (fun b => (State.acceptBytes b done).poll) (streamBytes_eq st hd))
    have cases := acceptBytes_eq bytes done
    rw [taken, accepted]
    refine ⟨fun hroom => ?_, fun hfull hdrop => ?_, fun hfull hdrop => ?_⟩
    · rw [cases.trans (if_pos hroom)]
      rfl
    · rw [cases.trans ((if_neg (Nat.not_le.2 hfull)).trans (if_pos hdrop))]
      rfl
    · rw [cases.trans ((if_neg (Nat.not_le.2 hfull)).trans (if_neg (Bool.not_eq_true _ ▸ hdrop)))]
      rfl

/-! ### Stream Data reads -/

/-- The halves of a read's answer, from the bytes taken in order (R119). -/
theorem streamHalf_eq {st : Strobes} (hst : anyStrobe st = true) (bytes : List Byte) :
    streamHalf st bytes =
      (if st.hub then bytes.getD (if st.hlb then 1 else 0) 0xFF#8 else 0xFF#8) ++
        (if st.hlb then bytes.getD 0 0xFF#8 else 0xFF#8) := by
  obtain ⟨lb, ub⟩ := st
  cases lb <;> cases ub <;> simp [streamHalf, bothStrobes, List.getD_eq_getElem?_getD, anyStrobe] at hst ⊢

/-- A held read whose bytes are in the FIFO is answered (R120). -/
theorem judgeRead_answers {s : State} {st : Strobes} (hh : s.outb.held = some st)
    (hpos : 0 < streamTake st s.outb.available) (hle : streamTake st s.outb.available ≤ s.outb.fifo.length) :
    s.judgeRead = (s.setOutb { s.outb.taken (streamTake st s.outb.available) with held := none }).releaseHost
      (s.outb.readReply st (streamTake st s.outb.available)) := by
  simp only [State.judgeRead, hh]
  exact if_pos ⟨hpos, hle⟩

/-- Settles O22: by the strobes, the service and the bytes available; then the read judged anew. -/
theorem streamReadOutcomes : Obligations.StreamReadOutcomes := by
  intro st s i filler refused served n low high answered
  have reply (hst : anyStrobe st = true) : s.outb.readReply st n = .read (high ++ low) :=
    congrArg HostReply.read (streamHalf_eq hst _)
  refine ⟨fun hc => ⟨fun hst => ?_, fun hst hns => ?_, fun hst hs => ?_⟩, fun hst hheld => ⟨fun hpos hle => ?_, fun hno => ?_⟩⟩
  · rw [show exec i s = _ from next_hostRead hc rfl, State.streamRead, hst]
    rfl
  · have taken : exec i s = .next (State.streamRead st s) := next_hostRead hc rfl
    have offered : State.streamRead st s = refused.offerAccess :=
      (if_pos hst).trans (if_neg ((served_iff s (s.outb.state = .running)).not.2 hns))
    refine ⟨fun hw => ?_, fun hp hw => ?_⟩
    · rw [taken, offered, offerAccess_no_wake (s := refused) hw]
    · rw [taken, offered, offerAccess_wakes (s := refused) hp hw]
  · have taken : exec i s = .next (State.streamRead st s) := next_hostRead hc rfl
    have read : State.streamRead st s = (s.serveRead st).poll :=
      (if_pos hst).trans (if_pos ((served_iff s (s.outb.state = .running)).2 hs))
    rw [taken, read]
    refine ⟨fun hn => ?_, fun hpos hle => ?_, fun hlt => ?_⟩
    · have none : s.serveRead st = _ := if_pos hn
      rw [none]
      rfl
    · have some : s.serveRead st = _ := (if_neg (Nat.pos_iff_ne_zero.1 hpos)).trans (if_pos hle)
      rw [some, show s.outb.readReply st (streamTake st s.outb.available) = _ from reply hst]
      rfl
    · have held : s.serveRead st = _ :=
        (if_neg (Nat.ne_of_gt (Nat.lt_of_le_of_lt (Nat.zero_le _) hlt))).trans (if_neg (Nat.not_le.2 hlt))
      rw [held]
      rfl
  · rw [judgeRead_answers hheld hpos hle, show s.outb.readReply st (streamTake st s.outb.available) = _ from reply hst]
    rfl
  · simp only [State.judgeRead, hheld]
    exact if_neg fun h => hno.elim (Nat.pos_iff_ne_zero.1 h.1) (Nat.not_lt.2 h.2)

/-! ### END and NEXT -/

/-- The channel after its head message is skipped; a fetch in flight is then void (R118, R121). -/
def Outbound.skipped (c : Outbound) (m : Nat) (rest : List Nat) (fetching : Bool) : Outbound :=
  if c.consume = m then { c with marks := rest }
  else { c with marks := rest, fifo := [], fetch := m, consume := m, fetchVoid := c.fetchVoid || fetching }

theorem skipMessage_of_marks {s : State} {m : Nat} {rest : List Nat} (h : s.outb.marks = m :: rest) :
    s.skipMessage = s.setOutb (s.outb.skipped m rest (s.inFlight .outbound)) := by
  simp only [State.skipMessage, h, Outbound.skipped]
  by_cases hm : s.outb.consume = m
  · rw [if_pos hm, if_pos hm]
  · rw [if_neg hm, if_neg hm, voidFetch_eq]
    rfl

/-- Settles O23: END by its result, NEXT by the head of the marks. -/
theorem endAndNextByTheirChecks : Obligations.EndAndNextByTheirChecks := by
  intro s hc answered ready fetching
  have ends : exec .endMessage s = .next (s.reply .written).takeEnd := next_hostWrite hc rfl
  have nexts : exec .nextMessage s = .next (s.reply .written).takeNext := next_hostWrite hc rfl
  have serving : (s.reply .written).serving = true ↔ ready := serving_iff s
  have turned {r : Result} (hr : (s.reply .written).endResult = r) (hne : r ≠ .ok) :
      exec .endMessage s = .next (answered r) := by
    simp only [ends, State.takeEnd, hr, if_neg hne]
    rfl
  have notServing (h : ¬ ready) : (!(s.reply .written).serving) = true := by
    rw [Bool.not_eq_true', ← Bool.not_eq_true]
    exact serving.not.2 h
  have isServing (h : ready) : ¬ (!(s.reply .written).serving) = true := by simp [serving.2 h]
  refine ⟨fun h => turned (if_pos (notServing h)) nofun,
    fun h hr => turned ((if_neg (isServing h)).trans (if_pos hr)) nofun,
    fun h hr hm => turned ((if_neg (isServing h)).trans ((if_neg (not_not.2 hr)).trans (if_pos hm))) nofun,
    fun h hr hm hb => turned ((if_neg (isServing h)).trans ((if_neg (not_not.2 hr)).trans
      ((if_neg hm).trans (if_pos hb)))) nofun,
    fun h hr hm hb => ?_, fun hb => ?_, fun hb hm => ?_, fun m rest hb hm => ?_⟩
  · have ok : (s.reply .written).endResult = .ok := (if_neg (isServing h)).trans ((if_neg (not_not.2 hr)).trans
      ((if_neg hm).trans (if_neg (Nat.not_le.2 hb))))
    have fifo : s.inb.fifo.isEmpty = decide (s.inb.fifo = []) := by cases s.inb.fifo <;> rfl
    rw [ends, show (s.reply .written).takeEnd = _ from if_pos ok]
    simp only [Inbound.ended, Inbound.boundary, ← fifo]
    rfl
  · rw [nexts]
    exact congrArg _ (if_pos hb)
  · rw [nexts]
    exact congrArg _ ((if_neg (by simp [hb])).trans (if_pos hm))
  · have marks : (s.reply .written).outb.marks = m :: rest := hm
    have some : (s.reply .written).outb.marks ≠ [] := by simp only [marks, ne_eq, reduceCtorEq, not_false_eq_true]
    have taken : (s.reply .written).takeNext = _ := (if_neg (by simp [hb])).trans (if_neg some)
    rw [skipMessage_of_marks marks] at taken
    refine ⟨s.outb.skipped m rest (s.inFlight .outbound), nexts.trans (congrArg _ taken), fun hm => if_pos hm,
      fun hm hf => (if_neg hm).trans ?_, fun hm hf => (if_neg hm).trans ?_⟩
    · rw [(inFlight_iff s .outbound).2 hf, Bool.or_true]
    · rw [Bool.eq_false_iff.2 ((inFlight_iff s .outbound).not.2 hf), Bool.or_false]

end Sys2Proof.Machine

/-! SUPPORT and PROOFS. The stream channels' commands (R106, R107), stops (R108, R110, R118, R120), pops and marks
(R115, R116), ring settings and indices (R103, R105, R179). -/

namespace Sys2Proof.Machine

/-! ### IN_STOP and OUT_STOP by channel state -/

/-- The host that a channel holds is freed by the channel's stop, but not during a datapath reset (R110, log entry 21). -/
def State.freesWriter (s : State) : Bool := s.inb.held.isSome && !s.power.resetBusy

def State.freesReader (s : State) : Bool := s.outb.held.isSome && !s.power.resetBusy

/-- The end of a held write where no datapath reset keeps the host, as one update. -/
theorem unlessResetting_endHeldStream (s : State) :
    unlessResetting State.endHeldStream s = { s with
      inb := { s.inb with
        held := if s.power.resetBusy then s.inb.held else none, damaged := s.inb.damaged || s.freesWriter }
      stream := { s.stream with refused := s.stream.refused || s.freesWriter }
      hostReply := if s.freesWriter then .written else s.hostReply
      stall := if s.freesWriter then none else s.stall } := by
  unfold State.freesWriter
  rcases unlessResetting_cases State.endHeldStream s with ⟨hb, eq⟩ | ⟨hb, eq⟩ <;> rw [eq]
  · rw [endHeldStream_eq]
    simp [hb]
  · simp [hb]

theorem unlessResetting_endHeldRead (s : State) :
    unlessResetting State.endHeldRead s = { s with
      outb := { s.outb with held := if s.power.resetBusy then s.outb.held else none }
      stream := { s.stream with refused := s.stream.refused || s.freesReader }
      hostReply := if s.freesReader then fillerReply else s.hostReply
      stall := if s.freesReader then none else s.stall } := by
  unfold State.freesReader
  rcases unlessResetting_cases State.endHeldRead s with ⟨hb, eq⟩ | ⟨hb, eq⟩ <;> rw [eq]
  · rw [endHeldRead_eq]
    simp [hb]
  · simp [hb]

/-- IN_STOP of a RUNNING channel (R106, R110). -/
theorem stopIn_running {s : State} (h : s.inb.state = .running) :
    s.stopIn = { s with
      inb := if s.inb.fifo = []
        then { s.inb with
          state := .off, msgLen := 0, damaged := false, held := if s.power.resetBusy then s.inb.held else none }
        else { s.inb with
          state := .flushing, held := if s.power.resetBusy then s.inb.held else none
          damaged := s.inb.damaged || s.freesWriter }
      stream := { s.stream with refused := s.stream.refused || s.freesWriter }
      hostReply := if s.freesWriter then .written else s.hostReply
      stall := if s.freesWriter then none else s.stall } := by
  have stops : s.stopIn = s.stopRunningIn := by simp only [State.stopIn, h]
  rw [stops, State.stopRunningIn, unlessResetting_endHeldStream]
  by_cases hf : s.inb.fifo = []
  · simp only [if_pos hf, Inbound.turnOff, State.setInb]
  · simp only [if_neg hf, State.setInb]

/-- IN_STOP of a HALTED channel (R106). -/
theorem stopIn_halted {s : State} (h : s.inb.state = .halted) :
    s.stopIn = { s with inb := { s.inb with
      state := .off, msgLen := 0, damaged := false, fifo := [], linger := .stopped
      boundaries := s.inb.boundaries.filter (fun b => b.visible) } } := by
  simp only [State.stopIn, h]
  rfl

theorem stopIn_idle {s : State} (h : s.inb.state = .flushing ∨ s.inb.state = .off) : s.stopIn = s := by
  rcases h with h | h <;> simp only [State.stopIn, h]

/-- OUT_STOP of a channel that is not OFF (R107, R118, R120). -/
theorem stopOut_live {s : State} (h : s.outb.state ≠ .off) :
    s.stopOut = { s with
      outb := { s.outb with
        state := .off, fifo := [], fetch := s.outb.consume, held := if s.power.resetBusy then s.outb.held else none
        fetchVoid := s.outb.fetchVoid || s.inFlight .outbound }
      stream := { s.stream with refused := s.stream.refused || s.freesReader }
      hostReply := if s.freesReader then .read 0xFFFF#16 else s.hostReply
      stall := if s.freesReader then none else s.stall } := by
  have stops : s.stopOut = s.stopRunningOut := ((stopOut_cases s).resolve_left fun hn => h hn.1).2
  rw [stops, stopRunningOut_eq, unlessResetting_endHeldRead, voidFetch_eq]
  rfl

theorem stopOut_off {s : State} (h : s.outb.state = .off) : s.stopOut = s := by
  simp only [State.stopOut, h]

/-! ### IN_START, IN_STOP and IN_RESTART -/

/-- A local stream command outside a datapath reset, by its effect. -/
theorem next_streamCommand {f : State → State} {s t : State} (hc : s.localCanAct) (hb : s.power.resetBusy = false)
    (h : f s = t) : (.next (localWrite (State.streamCommand f) s) : Host.Outcome State Fault Refusal) = .next t :=
  next_localWrite hc ((streamCommand_taken hb f).trans h)

theorem next_streamCommand_busy {s : State} (hc : s.localCanAct) (hb : s.power.resetBusy = true) (f : State → State) :
    (.next (localWrite (State.streamCommand f) s) : Host.Outcome State Fault Refusal) =
      .next (s.localStreamResult .busy) :=
  next_localWrite hc (streamCommand_busy hb f)

theorem streamEnabled_iff (s : State) : s.streamEnabled = true ↔ s.settings.s5.accepted = 1#4 := decide_eq_true_iff

/-- The checks of a start in their order (R106, R107). -/
theorem startChecks {on valid : Bool} :
    (on = false → (if !on then Result.notEnabled else if !valid then .badRing else .ok) = .notEnabled) ∧
    (on = true → valid = false → (if !on then Result.notEnabled else if !valid then .badRing else .ok) = .badRing) ∧
    (on = true → valid = true → (if !on then Result.notEnabled else if !valid then .badRing else .ok) = .ok) := by
  cases on <;> cases valid <;> decide

/-- Settles O24: by the reset, then by channel state. -/
theorem inboundCommandsByState : Obligations.InboundCommandsByState := by
  intro s hc answered started ring
  refine ⟨fun hb i hi => ?_, fun hb => ?_⟩
  · simp only [List.mem_cons, List.not_mem_nil, or_false] at hi
    rcases hi with rfl | rfl | rfl <;> exact next_streamCommand_busy hc hb _
  · have enabled := streamEnabled_iff s
    have valid : ringValid s.inb.base s.inb.size = true ↔ ring := ringValid_iff ..
    have off (h : s.inb.state = .off) : s.inStartResult = if !s.streamEnabled then .notEnabled
        else if !ringValid s.inb.base s.inb.size then .badRing else .ok := by simp only [State.inStartResult, h]
    have turned {r : Result} (hr : s.inStartResult = r) (hne : r ≠ .ok) : exec .inStart s = .next (answered r) :=
      next_streamCommand hc hb (by rw [State.takeInStart, hr]; exact if_neg hne)
    refine ⟨fun h => ?_, fun h he => ?_, fun h he hr => ?_, fun h he hr => ?_, fun h => ?_, fun h => ?_, fun h => ?_,
      fun h => ?_, fun h => ?_⟩
    · refine turned (r := .badState) ?_ nofun
      unfold State.inStartResult
      split
      next ho => exact absurd ho h
      next => rfl
    · exact turned ((off h).trans (startChecks.1 (Bool.eq_false_iff.2 (enabled.not.2 he)))) nofun
    · exact turned ((off h).trans (startChecks.2.1 (enabled.2 he) (Bool.eq_false_iff.2 (valid.not.2 hr)))) nofun
    · have ok : s.inStartResult = .ok := (off h).trans (startChecks.2.2 (enabled.2 he) (valid.2 hr))
      exact next_streamCommand hc hb (by rw [State.takeInStart, ok]; rfl)
    · exact next_streamCommand hc hb (by simp only [State.takeInRestart, h]; rfl)
    · exact next_streamCommand hc hb (if_neg h)
    · exact next_streamCommand hc hb (by rcases h with h | h <;> simp only [State.takeInStop, h] <;> rfl)
    · refine next_streamCommand hc hb ?_
      have stops : s.takeInStop = (s.stopIn.localStreamResult .ok).poll := by simp only [State.takeInStop, h]
      rw [stops, stopIn_halted h]
      rfl
    · have stops : s.takeInStop = (s.stopIn.localStreamResult .ok).poll := by simp only [State.takeInStop, h]
      have frees : s.freesWriter = s.inb.held.isSome := by simp [State.freesWriter, hb]
      rw [stopIn_running h, frees, hb] at stops
      refine ⟨_, next_streamCommand hc hb stops, fun hf => ?_, fun hf => ?_, rfl, fun hh => ?_, fun hh => ?_, rfl⟩
      · exact if_pos hf
      · exact if_neg hf
      · exact ⟨if_pos hh, if_pos hh⟩
      · exact ⟨if_neg (by simp [hh]), if_neg (by simp [hh])⟩

/-- Settles O25: by the reset, then by channel state. -/
theorem outboundCommandsByState : Obligations.OutboundCommandsByState := by
  intro s hc answered started ring fetching
  refine ⟨fun hb i hi => ?_, fun hb => ?_⟩
  · simp only [List.mem_cons, List.not_mem_nil, or_false] at hi
    rcases hi with rfl | rfl | rfl <;> exact next_streamCommand_busy hc hb _
  · have enabled := streamEnabled_iff s
    have valid : ringValid s.outb.base s.outb.size = true ↔ ring := ringValid_iff ..
    have off (h : s.outb.state = .off) : s.outStartResult = if !s.streamEnabled then .notEnabled
        else if !ringValid s.outb.base s.outb.size then .badRing else .ok := by simp only [State.outStartResult, h]
    have turned {r : Result} (hr : s.outStartResult = r) (hne : r ≠ .ok) : exec .outStart s = .next (answered r) :=
      next_streamCommand hc hb (by rw [State.takeOutStart, hr]; exact if_neg hne)
    refine ⟨fun h => ?_, fun h he => ?_, fun h he hr => ?_, fun h he hr => ?_, fun h => ?_, fun h => ?_, fun h => ?_,
      fun h => ?_⟩
    · refine turned (r := .badState) ?_ nofun
      unfold State.outStartResult
      split
      next ho => exact absurd ho h
      next => rfl
    · exact turned ((off h).trans (startChecks.1 (Bool.eq_false_iff.2 (enabled.not.2 he)))) nofun
    · exact turned ((off h).trans (startChecks.2.1 (enabled.2 he) (Bool.eq_false_iff.2 (valid.not.2 hr)))) nofun
    · have ok : s.outStartResult = .ok := (off h).trans (startChecks.2.2 (enabled.2 he) (valid.2 hr))
      exact next_streamCommand hc hb (by rw [State.takeOutStart, ok]; rfl)
    · exact next_streamCommand hc hb (if_pos h)
    · exact next_streamCommand hc hb (if_neg h)
    · exact next_streamCommand hc hb (if_pos h)
    · have live : s.outb.state ≠ .off := by rcases h with h | h <;> simp [h]
      have stops : s.takeOutStop = (s.stopOut.localStreamResult .ok).poll := if_neg live
      have frees : s.freesReader = s.outb.held.isSome := by simp [State.freesReader, hb]
      rw [stopOut_live live, frees, hb] at stops
      refine ⟨_, next_streamCommand hc hb stops, fun hf => ?_, fun hf => ?_, rfl, fun hh => ?_, fun hh => ?_, rfl⟩
      · simp [State.localStreamResult, (inFlight_iff s .outbound).2 hf]
      · simp [State.localStreamResult, Bool.eq_false_iff.2 ((inFlight_iff s .outbound).not.2 hf)]
      · exact ⟨if_pos hh, if_pos hh⟩
      · exact ⟨if_neg (by simp [hh]), if_neg (by simp [hh])⟩

/-! ### IN_POP and OUT_MARK -/

/-- A mark's check in the words of R116. -/
theorem markResult_eq (c : Outbound) (p : Nat) :
    c.markResult p = if 8 ≤ c.marks.length then .full
      else if p < 2 * ringSize c.size ∧ ringDist (ringSize c.size) c.reference p ≠ 0 ∧
          ringDist (ringSize c.size) c.consume c.reference ≤ ringDist (ringSize c.size) c.consume p ∧
          ringDist (ringSize c.size) c.consume p ≤ ringDist (ringSize c.size) c.consume c.produce then .ok
        else .badMark := by
  unfold Outbound.markResult
  refine if_congr Iff.rfl rfl ?_
  by_cases good : p < 2 * ringSize c.size ∧ ringDist (ringSize c.size) c.reference p ≠ 0 ∧
      ringDist (ringSize c.size) c.consume c.reference ≤ ringDist (ringSize c.size) c.consume p ∧
      ringDist (ringSize c.size) c.consume p ≤ ringDist (ringSize c.size) c.consume c.produce
  · rw [if_pos good, if_neg (by omega)]
  · rw [if_neg good, if_pos (by omega)]

theorem fetchReaches_iff (s : State) (p : Nat) :
    s.fetchReaches p = true ↔ ∃ x ∈ s.master.transfer, x.client = .outbound ∧
      ringDist (ringSize s.outb.size) s.outb.consume p <
        ringDist (ringSize s.outb.size) s.outb.consume s.outb.fetch + x.runLen := by
  unfold State.fetchReaches
  cases s.master.transfer <;> simp

/-- The channel after an accepted mark (R116). -/
def State.markedChannel (s : State) (p : Nat) : Outbound :=
  if s.outb.marks = [] then
    { s.outb.cutBack p with marks := [p], fetchVoid := s.outb.fetchVoid || s.fetchReaches p }
  else { s.outb with marks := s.outb.marks ++ [p] }

theorem takeMark_eq (s : State) (p : Nat) : s.takeMark p = (s.setOutb (s.markedChannel p)).judgeRead := by
  unfold State.takeMark State.markedChannel
  by_cases hm : s.outb.marks = []
  · have voided : (if s.fetchReaches p then s.voidFetch else s) =
        s.setOutb { s.outb with fetchVoid := s.outb.fetchVoid || s.fetchReaches p } := by
      by_cases hr : s.fetchReaches p = true
      · obtain ⟨x, hx, client, _⟩ := (fetchReaches_iff s p).1 hr
        rw [if_pos hr, voidFetch_eq, hr, (inFlight_iff s .outbound).2 ⟨x, hx, client⟩]
      · rw [if_neg hr, Bool.eq_false_iff.2 hr, Bool.or_false]
        rfl
    simp only [if_pos hm, voided]
    simp [State.setOutb, Outbound.cutBack, hm]
  · simp only [if_neg hm]

/-- The result of a command stands apart from a read judged anew. -/
theorem judgeRead_localStreamResult (s : State) (r : Result) :
    s.judgeRead.localStreamResult r = (s.localStreamResult r).judgeRead := by
  unfold State.judgeRead
  have outb : (s.localStreamResult r).outb = s.outb := rfl
  rw [outb]
  cases s.outb.held with
  | none => rfl
  | some st =>
    by_cases h : 0 < streamTake st s.outb.available ∧ streamTake st s.outb.available ≤ s.outb.fifo.length
    · simp only [if_pos h]
      rfl
    · simp only [if_neg h]

/-- Settles O26: IN_POP by the head, OUT_MARK by its check and by the list. -/
theorem popAndMarkByTheirChecks : Obligations.PopAndMarkByTheirChecks := by
  intro p s hc answered size ahead newest good reaches
  refine ⟨fun hb => ⟨next_streamCommand_busy hc hb _, next_streamCommand_busy hc hb _⟩, fun hb => ?_⟩
  have popped {r : Result} (hr : s.inPopResult = r) : exec .inPop s =
      .next ((if r = .ok then s.setInb { s.inb with boundaries := s.inb.boundaries.tail } else s).localStreamResult
        r) :=
    next_streamCommand hc hb (by rw [State.takeInPop, hr])
  have marked {r : Result} (hr : s.outb.markResult p.toNat = r) : exec (.outMark p) s =
      .next (if r = .ok then ((s.takeMark p.toNat).localStreamResult .ok).poll else s.localStreamResult r) :=
    next_streamCommand hc hb (by rw [State.takeOutMark, hr])
  have result := markResult_eq s.outb p.toNat
  refine ⟨fun h => popped (r := .empty) (by simp only [State.inPopResult, h]), fun b rest h => ⟨fun hv => ?_, fun hv => ?_⟩,
    fun h => marked (r := .full) (result.trans (if_pos h)),
    fun h hg => marked (r := .badMark) (result.trans ((if_neg (Nat.not_le.2 h)).trans (if_neg hg))), fun h hg => ?_⟩
  · exact popped (r := .notYet) (by simp [State.inPopResult, h, hv])
  · rw [popped (r := .ok) (by simp [State.inPopResult, h, hv]), if_pos rfl, h]
    rfl
  · have taken := marked (r := .ok) (result.trans ((if_neg (Nat.not_le.2 h)).trans (if_pos hg)))
    rw [if_pos rfl, takeMark_eq, judgeRead_localStreamResult] at taken
    refine ⟨s.markedChannel p.toNat, taken, fun hm => if_neg hm, fun hm => ⟨_, _, if_pos hm, fun hlt => if_pos hlt,
      fun hle => if_neg (Nat.not_lt.2 hle), fun hr => ?_, fun hr => ?_⟩⟩
    · rw [(fetchReaches_iff s p.toNat).2 hr, Bool.or_true]
    · rw [Bool.eq_false_iff.2 ((fetchReaches_iff s p.toNat).not.2 hr), Bool.or_false]

/-! ### Ring settings and indices -/

/-- The inbound channel after a write of IN_CONFIG, its held write apart (R103, R179). -/
def Inbound.configured (c : Inbound) (d : Word) : Inbound :=
  if c.state = .off then
    { c with
      size := d.extractLsb' 0 4, produce := 0, consume := 0, boundaries := [], drop := d.getLsbD 8
      hold := d.extractLsb' 16 4 }
  else { c with drop := d.getLsbD 8, hold := d.extractLsb' 16 4 }

@[simp] theorem configured_held (c : Inbound) (d : Word) : (c.configured d).held = c.held := by
  unfold Inbound.configured
  split <;> rfl

@[simp] theorem configured_damaged (c : Inbound) (d : Word) : (c.configured d).damaged = c.damaged := by
  unfold Inbound.configured
  split <;> rfl

/-- A mode that becomes DROP frees a host that the channel holds, but not during a datapath reset (R110, log entry 21). -/
def State.dropFrees (drop : Bool) (s : State) : Bool := drop && s.inb.held.isSome && !s.power.resetBusy

theorem modeDrop_eq (drop : Bool) (s : State) :
    (if drop then unlessResetting State.dropHeldStream s else s) = { s with
      inb := { s.inb with
        held := if s.dropFrees drop then none else s.inb.held, damaged := s.inb.damaged || s.dropFrees drop }
      stream := { s.stream with dropped := s.stream.dropped || s.dropFrees drop }
      hostReply := if s.dropFrees drop then .written else s.hostReply
      stall := if s.dropFrees drop then none else s.stall } := by
  cases drop with
  | false => simp [State.dropFrees]
  | true =>
    rw [if_pos rfl]
    rcases unlessResetting_cases State.dropHeldStream s with ⟨hb, eq⟩ | ⟨hb, eq⟩ <;> rw [eq]
    · rcases dropHeldStream_cases s with ⟨hh, eq⟩ | ⟨hh, eq⟩ <;> rw [eq]
      · have stays : s.dropFrees true = false := by simp [State.dropFrees, hh]
        simp [stays]
      · simp [State.dropFrees, hh, hb]
    · simp [State.dropFrees, hb]

theorem writeInConfig_eq (d : Word) (s : State) :
    s.writeInConfig d = { s with
      inb := { s.inb.configured d with
        held := if s.dropFrees (d.getLsbD 8) then none else s.inb.held
        damaged := s.inb.damaged || s.dropFrees (d.getLsbD 8) }
      stream := { s.stream with dropped := s.stream.dropped || s.dropFrees (d.getLsbD 8) }
      hostReply := if s.dropFrees (d.getLsbD 8) then .written else s.hostReply
      stall := if s.dropFrees (d.getLsbD 8) then none else s.stall } := by
  have stored : s.writeInConfig d = if d.getLsbD 8 then unlessResetting State.dropHeldStream (s.setInb (s.inb.configured d))
      else s.setInb (s.inb.configured d) := by
    unfold State.writeInConfig Inbound.configured
    by_cases h : s.inb.state = .off
    · simp only [if_pos h]
      rfl
    · simp only [if_neg h]
  have frees : (s.setInb (s.inb.configured d)).dropFrees (d.getLsbD 8) = s.dropFrees (d.getLsbD 8) := by
    simp only [State.dropFrees, State.setInb, configured_held]
  rw [stored, modeDrop_eq, frees]
  simp only [State.setInb, configured_held, configured_damaged]

/-- Settles O27: each register by its channel's state; IN_CONFIG by its mode and the held write. -/
theorem ringSettingWritesByState : Obligations.RingSettingWritesByState := by
  intro d s hc
  have written (r : RingReg) : exec (.ringSettingWrite r d) s = .next (s.writeRing r d) := next_localWrite hc rfl
  have outConfig : s.writeOutConfig d = (if s.outb.state = .off then
      s.setOutb { s.outb with
        size := d.extractLsb' 0 4, hold := d.extractLsb' 16 4, produce := 0, fetch := 0, consume := 0, marks := [] }
      else s.setOutb { s.outb with hold := d.extractLsb' 16 4 }) := by
    unfold State.writeOutConfig
    split <;> rfl
  refine ⟨fun h => ?_, fun h => ?_, fun h => ?_, fun h => ?_, fun h => ?_, fun h => ?_, ?_⟩
  · exact (written .inBase).trans (congrArg _ (if_pos h))
  · exact (written .inBase).trans (congrArg _ (if_neg h))
  · exact (written .outBase).trans (congrArg _ (if_pos h))
  · exact (written .outBase).trans (congrArg _ (if_neg h))
  · exact (written .outConfig).trans (congrArg _ (outConfig.trans (if_pos h)))
  · exact (written .outConfig).trans (congrArg _ (outConfig.trans (if_neg h)))
  · have off (h : s.inb.state = .off) : s.inb.configured d = _ := if_pos h
    have kept (h : s.inb.state ≠ .off) : s.inb.configured d = _ := if_neg h
    refine ⟨_, (written .inConfig).trans (congrArg _ (writeInConfig_eq d s)), ?_⟩
    have frees (hd : d.getLsbD 8 = true) (hh : s.inb.held.isSome = true) (hb : s.power.resetBusy = false) :
        s.dropFrees (d.getLsbD 8) = true := by rw [hd, State.dropFrees, hh, hb]; rfl
    have stays (h : d.getLsbD 8 = false ∨ s.inb.held = none ∨ s.power.resetBusy = true) :
        s.dropFrees (d.getLsbD 8) = false := by
      rcases h with h | h | h <;> rw [State.dropFrees, h] <;> simp
    have state : (s.inb.configured d).drop = d.getLsbD 8 ∧ (s.inb.configured d).hold = d.extractLsb' 16 4 ∧
        (s.inb.configured d).state = s.inb.state ∧ (s.inb.configured d).fifo = s.inb.fifo ∧
        (s.inb.configured d).base = s.inb.base ∧ (s.inb.configured d).linger = s.inb.linger ∧
        (s.inb.configured d).msgLen = s.inb.msgLen := by
      unfold Inbound.configured
      split <;> exact ⟨rfl, rfl, rfl, rfl, rfl, rfl, rfl⟩
    obtain ⟨drop, hold, state, fifo, base, linger, msgLen⟩ := state
    refine ⟨drop, hold, fun h => ?_, fun h => ?_, fun hd hh hb => ?_, fun h => ?_, state, fifo, base, linger, msgLen, rfl⟩
    · simp only [off h, and_self]
    · simp only [kept h, and_self]
    · simp only [frees hd hh hb, if_true, Bool.or_true, and_self]
    · simp only [stays h, Bool.false_eq_true, if_false, Bool.or_false, and_self]

/-- The check of IN_CONSUME in the words of R105 and R179. -/
theorem inConsume_good (s : State) (d : Word) :
    (!s.power.resetBusy && indexField d && s.inb.consumeOk d.toNat) = true ↔
      s.power.resetBusy = false ∧ d.toNat < 2 ^ 17 ∧ d.toNat < 2 * ringSize s.inb.size ∧
        ringDist (ringSize s.inb.size) s.inb.consume d.toNat ≤
          ringDist (ringSize s.inb.size) s.inb.consume s.inb.produce := by
  have occupancy : s.inb.occupancy = ringDist (ringSize s.inb.size) s.inb.consume s.inb.produce := rfl
  simp [indexField, Inbound.consumeOk, ← occupancy, and_assoc]

theorem outProduce_good (s : State) (d : Word) :
    (!s.power.resetBusy && indexField d && s.outb.produceOk d.toNat) = true ↔
      s.power.resetBusy = false ∧ d.toNat < 2 ^ 17 ∧ d.toNat < 2 * ringSize s.outb.size ∧
        ringDist (ringSize s.outb.size) s.outb.consume s.outb.produce ≤
          ringDist (ringSize s.outb.size) s.outb.consume d.toNat ∧
        ringDist (ringSize s.outb.size) s.outb.consume d.toNat ≤ ringSize s.outb.size := by
  simp [indexField, Outbound.produceOk, and_assoc]

/-- Settles O28: each index write by its check. -/
theorem indexWritesByTheirChecks : Obligations.IndexWritesByTheirChecks := by
  intro d s hc refused sizeIn sizeOut ahead goodIn goodOut
  have consumes : exec (.inConsume d) s = .next (s.writeInConsume d) := next_localWrite hc rfl
  have produces : exec (.outProduce d) s = .next (s.writeOutProduce d) := next_localWrite hc rfl
  have inGood := inConsume_good s d
  have outGood := outProduce_good s d
  refine ⟨fun h => ?_, fun h => ?_, fun h => ?_, fun h => ?_, next_localWrite hc rfl⟩
  · exact consumes.trans (congrArg _ (if_pos (inGood.2 h)))
  · exact consumes.trans (congrArg _ (if_neg (inGood.not.2 h)))
  · exact produces.trans (congrArg _ (if_pos (outGood.2 h)))
  · exact produces.trans (congrArg _ (if_neg (outGood.not.2 h)))

end Sys2Proof.Machine

/-! SUPPORT and PROOFS. Negotiated settings: host writes (R132, R133), answers (R135, R136), the answer timer (R139); the
attention line (R156, R167). -/

namespace Sys2Proof.Machine

/-! ### A host write of a negotiated setting -/

/-- A store of a setting leaves everything of the settings but itself. -/
theorem setNeg_rest (g : Settings) (n : NegSetting) (v : Negotiated) (qs : List Proposal) :
    { g.setNeg n v with s4 := g.s4, s5 := g.s5, s6 := g.s6, s7 := g.s7, proposals := qs } =
      { g with proposals := qs } := by
  cases n <;> rfl

theorem setNeg_setNeg (g : Settings) (n : NegSetting) (v w : Negotiated) : (g.setNeg n v).setNeg n w = g.setNeg n w := by
  cases n <;> rfl

/-- A proposal made by a host write, as one equation (R133, R138). -/
theorem propose_eq (n : NegSetting) (v : BitVec 4) (s : State) :
    s.propose n v = { s with settings := { s.settings.setNeg n
        { s.settings.neg n with serial := (s.settings.neg n).serial + 1, outcome := .pending, reason := 0 } with
      proposals := s.settings.proposals.filter (fun q => q.setting ≠ n) ++ [{
        setting := n, serial := (s.settings.neg n).serial + 1, value := v
        timer := if s.settings.answerLimit = 0#8 then none
          else some { start := s.now, limit := 1000 * s.settings.answerLimit.toNat } }] } } := by
  rw [← withoutSetting_eq]
  rfl

/-- Settles O29: by the range of the value. -/
theorem negotiatedWriteByRange : Obligations.NegotiatedWriteByRange := by
  intro n v s hc top f others
  have written : exec (.negotiatedSettingWrite n v) s = .next ((s.reply .written).writeNegotiated n v) :=
    next_hostWrite hc rfl
  have range : inRange n v = true ↔ v.toNat ≤ top := inRange_iff n v
  by_cases hv : v.toNat ≤ top
  · have proposed : (s.reply .written).writeNegotiated n v = _ := if_pos (range.2 hv)
    rw [proposed, propose_eq] at written
    refine ⟨_, written, fun m hm => ?_, fun h => absurd hv (Nat.not_le.2 h), fun _ => ⟨?_, rfl, rfl⟩, rfl, ?_, rfl⟩
    · exact (neg_setNeg ..).trans (if_neg hm)
    · exact (neg_setNeg ..).trans (if_pos rfl)
    · exact setNeg_rest s.settings n _ _
  · have ended : (s.reply .written).writeNegotiated n v = _ := if_neg (range.not.2 hv)
    rw [ended, endProposal_eq] at written
    refine ⟨_, written, fun m hm => ?_, fun _ => ⟨?_, rfl, rfl⟩, fun h => absurd h hv, rfl, ?_, rfl⟩
    · exact (neg_setNeg ..).trans (if_neg hm)
    · exact (neg_setNeg ..).trans (if_pos rfl)
    · exact setNeg_rest s.settings n _ _

/-! ### An accepted proposal -/

theorem stopIn_answerResult (s : State) (r : Result) : s.stopIn.answerResult r = (s.answerResult r).stopIn := by
  cases h : s.inb.state with
  | running =>
    rw [stopIn_running h, stopIn_running (s := s.answerResult r) h]
    rfl
  | halted =>
    rw [stopIn_halted h, stopIn_halted (s := s.answerResult r) h]
    rfl
  | flushing => rw [stopIn_idle (.inl h), stopIn_idle (s := s.answerResult r) (.inl h)]
  | off => rw [stopIn_idle (.inr h), stopIn_idle (s := s.answerResult r) (.inr h)]

theorem stopOut_answerResult (s : State) (r : Result) : s.stopOut.answerResult r = (s.answerResult r).stopOut := by
  by_cases h : s.outb.state = .off
  · rw [stopOut_off h, stopOut_off (s := s.answerResult r) h]
  · rw [stopOut_live h, stopOut_live (s := s.answerResult r) h]
    rfl

/-- LINE_PERMIT becoming 0 makes a waiting LINE read SINGLE (R55). -/
theorem lineToSingle_eq (s : State) :
    s.lineToSingle = s.setRead (s.slot.record.map (fun r => if r.phase = .inFlight then r else { r with kind := .single })) := by
  have same {o : Option ReadRecord} (h : s.slot.record = o) : s.setRead o = s := by
    rw [← h]
    rfl
  unfold State.lineToSingle
  cases hr : s.slot.record with
  | none => exact (same hr).symm
  | some r =>
    by_cases hp : r.phase = .inFlight
    · simp only [if_pos hp, Option.map_some]
      exact (same hr).symm
    · simp only [if_neg hp, Option.map_some]

/-- The state after an ANSWER_ACCEPT that is taken, without what a change of the value does (R136). -/
def State.acceptedState (p : Proposal) (s : State) : State :=
  { s with
    settings := { s.settings.setNeg p.setting
        { s.settings.neg p.setting with accepted := p.value, outcome := .accepted, reason := 0 } with
      proposals := s.settings.proposals.filter (fun q => q.setting ≠ p.setting), answerResult := .ok }
    events := { s.events with host := { s.events.host with answer := true } } }

theorem acceptProposal_eq (p : Proposal) (s : State) :
    ((s.setAccepted p.setting p.value).endProposal p.setting .accepted 0#4).answerResult .ok = s.acceptedState p := by
  have neg : (s.settings.setNeg p.setting { s.settings.neg p.setting with accepted := p.value }).neg p.setting =
      { s.settings.neg p.setting with accepted := p.value } := (neg_setNeg ..).trans (if_pos rfl)
  have rest : (s.settings.setNeg p.setting { s.settings.neg p.setting with accepted := p.value }).proposals =
      s.settings.proposals := by cases p.setting <;> rfl
  rw [endProposal_eq]
  simp only [State.setAccepted, neg, rest, setNeg_setNeg]
  rfl

section
variable {s : State} {p : Proposal} {i : BitVec 3} {reason : BitVec 4} (hc : s.localCanAct) (hl : s.proposalLaw)
  (hp : p ∈ s.settings.proposals) (hi : negOf i = some p.setting)
include hc hl hp hi

theorem exec_answerAccept_of_mem :
    exec (.answerAccept i p.serial reason) s = .next ((s.acceptProposal p.setting p.value).answerResult .ok).poll := by
  refine next_localWrite hc ?_
  have named : s.answerCheck false i p.serial reason = .ok p := answerCheck_of_mem hl hp hi (by simp)
  rw [State.answerAccept, named]

theorem exec_answerAccept_same (h : (s.settings.neg p.setting).accepted = p.value) :
    exec (.answerAccept i p.serial reason) s = .next (s.acceptedState p).poll := by
  rw [exec_answerAccept_of_mem hc hl hp hi, ← acceptProposal_eq]
  simp only [State.acceptProposal, h, ne_eq, not_true_eq_false, decide_false, Bool.false_eq_true, if_false]

theorem exec_answerAccept_changed (h : (s.settings.neg p.setting).accepted ≠ p.value) :
    exec (.answerAccept i p.serial reason) s =
      .next ((((s.setAccepted p.setting p.value).endProposal p.setting .accepted 0#4).handChange p.setting
        p.value).answerResult .ok).poll := by
  rw [exec_answerAccept_of_mem hc hl hp hi]
  simp only [State.acceptProposal, h, ne_eq, not_false_eq_true, decide_true, if_true]

end

/-- Settles O30: the stops by channel state, then the change by its setting. -/
theorem answerAcceptTaken : Obligations.AnswerAcceptTaken := by
  refine ⟨?_, ?_⟩
  · intro s stays held reading off
    have fetching : s.inFlight .outbound = s.master.transfer.any (fun x => decide (x.client = .outbound)) := by
      unfold State.inFlight
      cases s.master.transfer <;> rfl
    refine ⟨fun h => stopIn_running h, fun h => stopIn_halted h, fun h => stopIn_idle h, fun h => ?_,
      fun h => stopOut_off h⟩
    rw [stopOut_live h, fetching]
    rfl
  · intro p i reason s hc hl hp hi n f accepted i'
    refine ⟨fun h => ?_, fun hv h0 hn => ?_, fun hv h0 hn => ?_⟩
    · by_cases hv : f.accepted = p.value
      · exact exec_answerAccept_same hc hl hp hi hv
      · have idle (u : State) : u.handChange p.setting p.value = u := by
          rcases h.resolve_left hv with h0 | hn | hn
          · unfold State.handChange
            split
            next => exact if_neg h0
            next => exact if_neg h0
            next => rfl
            next => rfl
          · simp only [State.handChange, show p.setting = .attentionRoute from hn]
          · simp only [State.handChange, show p.setting = .tableRights from hn]
        rw [show exec i' s = _ from exec_answerAccept_changed hc hl hp hi hv, idle, acceptProposal_eq]
        rfl
    · have acts (u : State) : u.handChange p.setting p.value = u.stopIn.stopOut := by
        simp only [State.handChange, show p.setting = .streamEnable from hn, h0, if_true]
      rw [show exec i' s = _ from exec_answerAccept_changed hc hl hp hi hv, acts, stopOut_answerResult,
        stopIn_answerResult, acceptProposal_eq]
      rfl
    · have acts (u : State) : u.handChange p.setting p.value = u.strikeAll.lineToSingle := by
        simp only [State.handChange, show p.setting = .linePermit from hn, h0, if_true]
      rw [show exec i' s = _ from exec_answerAccept_changed hc hl hp hi hv, acts, lineToSingle_eq]
      have struck (u : State) (o : Option ReadRecord) :
          (u.strikeAll.setRead o).answerResult .ok = ((u.answerResult .ok).strikeAll).setRead o := rfl
      rw [struck, acceptProposal_eq]
      rfl

/-! ### The answer timer -/

/-- Settles O32: the proposal of the setting is the one its timer ends. -/
theorem answerExpiryEndsTheProposal : Obligations.AnswerExpiryEndsTheProposal := by
  intro n s hp hl
  have expiry : exec (.answerExpiry n) s = .next (s.expireProposal n) :=
    congrArg _ (unlessPon_taken hp (State.expireProposal n))
  refine ⟨fun p hm hn t ht => ?_, fun hnone => ?_⟩
  · have found : s.settings.proposal? n = some p := hn ▸ proposal?_of_mem hl hm
    have timer : p.timer = some t := ht
    have ended : s.expireProposal n = ((s.reach t).endProposal n .expired 0#4).poll := by
      simp only [State.expireProposal, found, timer]
    rw [expiry, ended, endProposal_eq]
    rfl
  · have quiet : s.expireProposal n = s := by
      cases hf : s.settings.proposal? n with
      | none => simp only [State.expireProposal, hf]
      | some p =>
        have hm : p ∈ s.settings.proposals := List.mem_of_find?_eq_some hf
        have hn : p.setting = n := by simpa using List.find?_some hf
        simp only [State.expireProposal, hf, hnone p hm hn]
    rw [expiry, quiet]

/-! ### Answers turned away -/

/-- An answer that finds no proposal with its serial is STALE (R135). -/
theorem answerCheck_stale {s : State} {reject : Bool} {i : BitVec 3} {serial : BitVec 8} {reason : BitVec 4}
    (hi : 4 ≤ i.toNat) (hr : ¬ (reject = true ∧ (reason = 0#4 ∨ reason = 15#4)))
    (hm : ∀ p ∈ s.settings.proposals, negOf i = some p.setting → p.serial ≠ serial) :
    s.answerCheck reject i serial reason = .error .stale := by
  obtain ⟨n, hn⟩ := Option.ne_none_iff_exists'.1 fun h => absurd ((negOf_none_iff i).1 h) (Nat.not_lt.2 hi)
  simp only [State.answerCheck, hn, if_neg hr]
  split
  next p hf =>
    have hp : p.setting = n := by simpa using List.find?_some hf
    exact if_neg (hm p (List.mem_of_find?_eq_some hf) (hn.trans (congrArg some hp.symm)))
  next => rfl

theorem answerCheck_badReason {s : State} {i : BitVec 3} {serial : BitVec 8} {reason : BitVec 4}
    (hr : reason = 0#4 ∨ reason = 15#4) : s.answerCheck true i serial reason = .error .badField := by
  unfold State.answerCheck
  split
  · rfl
  · exact if_pos ⟨rfl, hr⟩

theorem answerCheck_direct {s : State} {reject : Bool} {i : BitVec 3} {serial : BitVec 8} {reason : BitVec 4}
    (hi : i.toNat < 4) : s.answerCheck reject i serial reason = .error .badField := by
  simp only [State.answerCheck, (negOf_none_iff i).2 hi]

/-- Settles O33: by the checks in their order. -/
theorem answersTurnedAway : Obligations.AnswersTurnedAway := by
  intro i serial reason s hc hl answered missing
  have accepts {r : Result} (h : s.answerCheck false i serial reason = .error r) :
      exec (.answerAccept i serial reason) s = .next (answered r) :=
    next_localWrite hc (by rw [State.answerAccept, h]; rfl)
  have rejects {r : Result} (h : s.answerCheck true i serial reason = .error r) :
      exec (.answerReject i serial reason) s = .next (answered r) :=
    next_localWrite hc (by rw [State.answerReject, h]; rfl)
  exact ⟨fun hi => ⟨accepts (answerCheck_direct hi), rejects (answerCheck_direct hi)⟩,
    fun hi hm => accepts (answerCheck_stale hi (by simp) hm),
    fun _ hr => rejects (answerCheck_badReason hr),
    fun hi h0 h15 hm => rejects (answerCheck_stale hi (by simp [h0, h15]) hm)⟩

end Sys2Proof.Machine

/-! SUPPORT and PROOFS. The attention line (R156, R167) and the arbiter (R77, R78). -/

namespace Sys2Proof.Machine

/-! ### The attention line -/

/-- A wake by the attention line (R130, R167). -/
theorem wakeBy_attention {s : State} (h : s.power.state = .dormant) :
    s.wakeBy .attention = { s with
      power := { s.power with state := .waking, cause := some .attention }
      settings := { s.settings with powerLow := false }
      events := { s.events with
        host := { s.events.host with power := true }, loc := { s.events.loc with wake := true } } } := by
  rw [((wakeBy_cases .attention s).resolve_left fun hn => hn.1 h).2]
  rfl

/-- Settles O37: by the level, the route and the wake setting. -/
theorem attentionLineByRoute : Obligations.AttentionLineByRoute := by
  intro s hp raised
  have asserts : exec .latnAssertion s = .next s.raiseAttention := congrArg _ (if_neg (by simp [hp]))
  have deasserts : exec .latnDeassertion s = .next s.dropAttention := congrArg _ (if_neg (by simp [hp]))
  have raises (hl : s.pins.latn = false) :
      s.raiseAttention = if s.power.wakeOnAttention then raised.wakeBy .attention else raised := by
    have routed : (if s.settings.s4.accepted = Config.routeForward
        then (({ s with pins := { s.pins with latn := true } } : State).latchAttention).latchHostAttention
        else ({ s with pins := { s.pins with latn := true } } : State).latchAttention) = raised := by
      have forward : (s.settings.s4.accepted = Config.routeForward) = (s.settings.s4.accepted = 1#4) := rfl
      by_cases h : s.settings.s4.accepted = 1#4
      · rw [if_pos h]
        simp [raised, State.latchAttention, State.latchHostAttention, h]
      · rw [if_neg h]
        simp [raised, State.latchAttention, h]
    rw [← routed]
    exact if_neg (by simp [hl])
  refine ⟨deasserts, fun hl => asserts.trans (congrArg _ (if_pos hl)), fun hl => ⟨fun h => ?_, fun hd hw => ?_⟩⟩
  · rw [asserts, raises hl]
    by_cases hw : s.power.wakeOnAttention = true
    · have awake : raised.power.state ≠ .dormant := h.resolve_right (by simp [hw])
      rw [if_pos hw, ((wakeBy_cases .attention raised).resolve_right fun hn => awake hn.1).2]
    · rw [if_neg hw]
  · rw [asserts, raises hl, if_pos hw, wakeBy_attention (s := raised) hd]

/-! ### Eligibility in the words of R77 -/

section
variable {s : State} (hb : s.power.resetBusy = false)
include hb

theorem eligible_read_iff : s.eligible .readSlot = true ↔ ∃ r ∈ s.slot.record, r.phase = .busWait := by
  simp [State.eligible, hb, Option.any_eq_true]

theorem eligible_write_iff : s.eligible .pwq = true ↔ ∃ r ∈ s.pwq.records.head?, r.inFlight = false := by
  simp [State.eligible, hb, Option.any_eq_true]

theorem eligible_move_iff : s.eligible .inbound = true ↔
    (s.inb.state = .running ∨ s.inb.state = .flushing) ∧ s.inb.fifo ≠ [] ∧ s.inb.occupancy < ringSize s.inb.size ∧
      (¬ ∃ x ∈ s.master.transfer, x.client = .inbound) ∧
      (16 ≤ s.inb.fifo.length ∨ (∃ b ∈ s.inb.boundaries, b.visible = false) ∨ s.inb.linger = .passed ∨
        s.inb.state = .flushing) := by
  have flight : (!s.inFlight .inbound) = true ↔ ¬ ∃ x ∈ s.master.transfer, x.client = .inbound := by
    rw [← inFlight_iff, Bool.not_eq_true', Bool.not_eq_true]
  have room : 1 ≤ s.inb.ringFree ↔ s.inb.occupancy < ringSize s.inb.size := by
    unfold Inbound.ringFree
    omega
  have fifo : (!s.inb.fifo.isEmpty) = true ↔ s.inb.fifo ≠ [] := by simp
  have due : Config.runBytes = 16 := rfl
  have pending : s.inb.boundaries.any (fun b => !b.visible) = true ↔ ∃ b ∈ s.inb.boundaries, b.visible = false := by simp
  simp only [State.eligible, hb, Inbound.moveReady, Bool.and_eq_true, Bool.or_eq_true, decide_eq_true_eq, flight, room,
    fifo, due, pending, Bool.not_false, true_and, and_assoc, or_assoc]
  exact ⟨fun ⟨a, b, c, d, e⟩ => ⟨a, b, c, e, d⟩, fun ⟨a, b, c, e, d⟩ => ⟨a, b, c, d, e⟩⟩

theorem eligible_fetch_iff : s.eligible .outbound = true ↔
    s.outb.state = .running ∧ (s.power.state = .active ∨ s.power.state = .quiescing) ∧
      (¬ ∃ x ∈ s.master.transfer, x.client = .outbound) ∧
      1 ≤ s.outb.fetchable ∧ min 16 s.outb.fetchable ≤ 32 - s.outb.fifo.length := by
  have flight : (!s.inFlight .outbound) = true ↔ ¬ ∃ x ∈ s.master.transfer, x.client = .outbound := by
    rw [← inFlight_iff, Bool.not_eq_true', Bool.not_eq_true]
  have room : s.outb.room = 32 - s.outb.fifo.length := rfl
  have due : Config.runBytes = 16 := rfl
  simp only [State.eligible, hb, Outbound.fetchReady, Bool.and_eq_true, Bool.or_eq_true, decide_eq_true_eq, flight, room,
    due, Bool.not_false, true_and, and_assoc]
  tauto

end

theorem streamEligible_iff (s : State) :
    s.streamEligible = true ↔ s.eligible .inbound = true ∨ s.eligible .outbound = true := by
  simp [State.streamEligible]

theorem anyEligible_iff (s : State) : s.anyEligible = true ↔ ∃ c, s.choose = some c := by
  refine ⟨fun h => Option.isSome_iff_exists.1 (choose_isSome h), fun ⟨c, hc⟩ => ?_⟩
  by_contra h
  exact absurd (hc.symm.trans (choose_none (Bool.eq_false_iff.2 h))) nofun

/-! ### The choice -/

theorem streamWinner_stream (s : State) : s.streamWinner = .inbound ∨ s.streamWinner = .outbound := by
  unfold State.streamWinner
  split
  · cases s.master.lastStream <;> simp
  · split <;> simp

/-- The stream client that wins is eligible, and over the other the one not served last (R78). -/
theorem streamWinner_fair {s : State} (h : s.streamEligible = true) :
    (s.streamWinner = .inbound → s.eligible .inbound = true ∧
      (s.eligible .outbound = true → s.master.lastStream = .outbound)) ∧
    (s.streamWinner = .outbound → s.eligible .outbound = true ∧
      (s.eligible .inbound = true → s.master.lastStream = .inbound)) := by
  unfold State.streamEligible at h
  unfold State.streamWinner
  cases hi : s.eligible .inbound <;> cases ho : s.eligible .outbound <;> cases hl : s.master.lastStream <;>
    simp_all

/-- A stream channel is chosen only as the winner of the eligible ones. -/
theorem choose_stream {s : State} {c : Client} (h : s.choose = some c) (hc : c = .inbound ∨ c = .outbound) :
    s.streamEligible = true ∧ s.streamWinner = c := by
  unfold State.choose at h
  split at h
  next hs => exact ⟨hs.2, Option.some_inj.1 h⟩
  next =>
    split at h
    next => rcases hc with rfl | rfl <;> cases h
    next =>
      split at h
      next => rcases hc with rfl | rfl <;> cases h
      next =>
        split at h
        next hs => exact ⟨hs, Option.some_inj.1 h⟩
        next => cases h

/-- Settles O38: the branches of the choice, in the words of R77 and R78. -/
theorem arbiterChoosesByR78 : Obligations.ArbiterChoosesByR78 := by
  intro s hb read write move fetch counted
  have reads : s.eligible .readSlot = true ↔ read := eligible_read_iff hb
  have writes : s.eligible .pwq = true ↔ write := eligible_write_iff hb
  have moves : s.eligible .inbound = true ↔ move := eligible_move_iff hb
  have fetches : s.eligible .outbound = true ↔ fetch := eligible_fetch_iff hb
  have streams : s.streamEligible = true ↔ move ∨ fetch := (streamEligible_iff s).trans (or_congr moves fetches)
  have winner : ∃ c, some s.streamWinner = some c ∧ (c = .inbound ∨ c = .outbound) :=
    ⟨_, rfl, streamWinner_stream s⟩
  refine ⟨fun hr hs => ?_, fun hn => ?_, fun h => ?_, fun h => ?_, fun h => ?_, fun h => ?_, rfl, rfl⟩
  · have chosen : s.choose = some s.streamWinner := if_pos ⟨hr, streams.2 hs⟩
    rw [chosen]
    exact winner
  · have passed : ¬ (Config.runLimit ≤ s.master.run ∧ s.streamEligible = true) :=
      fun h => hn.elim (Nat.not_lt.2 h.1) fun hs => hs (streams.1 h.2)
    have rest := (if_neg passed : s.choose = _)
    refine ⟨fun hr => ?_, fun hr hw => ?_, fun hr hw hs => ?_, fun hr hw hs => ?_⟩
    · exact rest.trans (if_pos (reads.2 hr))
    · exact rest.trans ((if_neg (reads.not.2 hr)).trans (if_pos (writes.2 hw)))
    · have chosen : s.choose = some s.streamWinner :=
        rest.trans ((if_neg (reads.not.2 hr)).trans ((if_neg (writes.not.2 hw)).trans (if_pos (streams.2 hs))))
      rw [chosen]
      exact winner
    · exact rest.trans ((if_neg (reads.not.2 hr)).trans ((if_neg (writes.not.2 hw)).trans (if_neg (streams.not.2 hs))))
  · obtain ⟨hs, hw⟩ := choose_stream h (.inl rfl)
    obtain ⟨due, fair⟩ := (streamWinner_fair hs).1 hw
    exact ⟨moves.1 due, fun hf => fair (fetches.2 hf)⟩
  · obtain ⟨hs, hw⟩ := choose_stream h (.inr rfl)
    obtain ⟨due, fair⟩ := (streamWinner_fair hs).2 hw
    exact ⟨fetches.1 due, fun hm => fair (moves.2 hm)⟩
  · have run : (if s.streamEligible then s.master.run + 1 else 0) = s.master.run + 1 := if_pos (streams.2 h)
    simp only [counted, State.account, run, and_self]
  · have run : (if s.streamEligible then s.master.run + 1 else 0) = 0 := if_neg (streams.not.2 h)
    simp only [counted, State.account, run, and_self]

end Sys2Proof.Machine

/-! SUPPORT and PROOFS. The tests at the end of an event and the settling of the bus (R69 to R72, R75), LBGNT and LYLD
(R70, R73, R74), the bus timers (R69, R72, R76, R111). -/

namespace Sys2Proof.Machine

/-! ### The tests by ownership state -/

theorem yieldAsked_iff (s : State) : s.yieldAsked = true ↔ s.pins.lyld = true ∧ s.master.yieldHonor = true := by
  simp [State.yieldAsked]

theorem markPassed_iff (s : State) : s.markPassed = true ↔ ∀ m ∈ s.master.releaseMark, m < s.now := by
  unfold State.markPassed
  cases s.master.releaseMark <;> simp

/-- Whether a request begins from RELEASED (R69). -/
def State.beginsRequest (s : State) : Prop := s.anyEligible = true ∧ s.yieldAsked = false ∧ s.markPassed = true

theorem takeGrant_chosen {s : State} {c : Client} (h : s.choose = some c) :
    s.takeGrant = (s.setOwn (if s.yieldAsked then .yielding .yielded else .transferring)).issue c := by
  simp only [State.takeGrant, h]

theorem takeGrant_none {s : State} (h : s.anyEligible = false) : s.takeGrant = s.release := by
  simp only [State.takeGrant, choose_none h]

theorem poll_begins {s : State} (ho : s.master.own = .released) (h : s.beginsRequest) :
    s.poll = if s.pins.lbgnt then s.enterRequesting.takeGrant else s.enterRequesting := by
  obtain ⟨he, hy, hm⟩ := h
  simp only [State.poll, ho, he, hy, hm, Bool.not_false, Bool.and_self, if_true]

theorem poll_released {s : State} (ho : s.master.own = .released) (h : ¬ s.beginsRequest) : s.poll = s := by
  simp only [State.poll, ho]
  refine if_neg fun hb => h ?_
  simpa [State.beginsRequest, and_assoc] using hb

theorem poll_requesting {s : State} {n : Nat} {p : Patience} (ho : s.master.own = .requesting n p) :
    s.poll = if s.anyEligible then (if s.pins.lbgnt then s.takeGrant else s) else s.release := by
  simp only [State.poll, ho]

theorem poll_holding {s : State} {h : Timer} (ho : s.master.own = .holding h) :
    (∀ c, s.choose = some c → s.poll = (s.setOwn .transferring).issue c) ∧ (s.choose = none → s.poll = s) := by
  refine ⟨fun c hc => ?_, fun hc => ?_⟩ <;> simp only [State.poll, ho, hc]

theorem poll_owned {s : State} (ho : s.master.own = .transferring ∨ ∃ w, s.master.own = .yielding w) : s.poll = s := by
  rcases ho with ho | ⟨w, ho⟩ <;> simp only [State.poll, ho]

/-! ### The settling after a transfer -/

theorem settle_transferring {s : State} (ho : s.master.own = .transferring) (hold : Nat) :
    s.settle hold = s.settleOwned hold := by
  simp only [State.settle, ho]

theorem settle_yielded {s : State} (ho : s.master.own = .yielding .yielded) (hold : Nat) : s.settle hold = s.release := by
  simp only [State.settle, ho]

theorem settle_withdrawn {s : State} (ho : s.master.own = .yielding .withdrawn) (hold : Nat) :
    s.settle hold = if s.anyEligible then s.enterRequesting else s.release := by
  simp only [State.settle, ho]

/-- Settles O43: the tests and the settling by ownership state. -/
theorem busSettlesAfterATransfer : Obligations.BusSettlesAfterATransfer := by
  refine ⟨?_, ?_⟩
  · intro s own yield begins
    have yields : s.yieldAsked = true ↔ yield := yieldAsked_iff s
    have begins_iff : begins ↔ s.beginsRequest :=
      and_congr_right fun _ => and_congr (yields.symm.not.trans Bool.eq_false_iff.symm) (markPassed_iff s).symm
    refine ⟨fun ho => ⟨fun hb hg => ?_, fun hb hg => ?_, fun hb => poll_released ho (begins_iff.not.1 hb)⟩,
      fun n p ho => ⟨fun he => ?_, fun he hg => ?_, fun he hg => ?_⟩, fun h ho => poll_holding ho, poll_owned⟩
    · rw [poll_begins ho (begins_iff.1 hb), if_neg (by simp [hg])]
      rfl
    · obtain ⟨c, hc⟩ := (anyEligible_iff s).1 hb.1
      have chosen : s.enterRequesting.choose = some c := hc
      have kept : s.enterRequesting.yieldAsked = false := (begins_iff.1 hb).2.1
      refine ⟨c, hc, ?_⟩
      rw [poll_begins ho (begins_iff.1 hb), if_pos hg, takeGrant_chosen chosen, kept]
      rfl
    · rw [poll_requesting ho, if_neg (by simp [he])]
      rfl
    · obtain ⟨c, hc⟩ := (anyEligible_iff s).1 he
      have taken : s.poll = _ := (poll_requesting ho).trans ((if_pos he).trans ((if_pos hg).trans (takeGrant_chosen hc)))
      refine ⟨c, hc, fun hy => ?_, fun hy => ?_⟩
      · rw [taken, if_pos (yields.2 hy)]
        rfl
      · rw [taken, if_neg (yields.not.2 hy)]
        rfl
    · rw [poll_requesting ho, if_pos he, if_neg (by simp [hg])]
  · intro hold s own freed yield
    have yields : s.yieldAsked = true ↔ yield := yieldAsked_iff s
    refine ⟨fun ho => ?_, fun ho => settle_yielded ho hold, fun ho => ⟨fun he => ?_, fun he => ?_⟩⟩
    · have settled := settle_transferring ho hold
      refine ⟨fun hy => settled.trans (if_pos (yields.2 hy)), fun c hy hc => ?_, fun hy hc hh => ?_, fun hy hc hh => ?_⟩
      all_goals
        rw [settled, State.settleOwned, if_neg (yields.not.2 hy), hc]
      · exact if_pos hh
      · exact if_neg (by omega)
    · exact (settle_withdrawn ho hold).trans (if_pos he)
    · exact (settle_withdrawn ho hold).trans (if_neg (by simp [he]))

/-! ### Issues -/

theorem issue_pwq {s : State} {r : WriteRecord} {rest : List WriteRecord} (h : s.pwq.records = r :: rest) :
    s.issue .pwq =
      ({ s.account .pwq with pwq := { s.pwq with records := { r with inFlight := true } :: rest } } : State).startTransfer
        { client := .pwq, kind := .singleWrite, entry := some r.entry, first := r.word,
          beats := [{ lbe := r.mask, ld := r.data }], beatsDone := 0, readData := [], discard := false,
          beatTimer := s.beatTimer, runLen := 0, runSkip := 0 } := by
  simp only [State.issue, State.account, State.issueWrite, h]
  rfl

theorem issue_single {s : State} {r : ReadRecord} (h : s.slot.record = some r) (hk : r.kind = .single) :
    s.issue .readSlot =
      ((s.account .readSlot).setRead (some { r with phase := .inFlight })).startTransfer
        { client := .readSlot, kind := .singleRead, entry := some r.entry, first := r.word,
          beats := [{ lbe := r.lanes.mask, ld := 0 }], beatsDone := 0, readData := [], discard := false,
          beatTimer := s.beatTimer, runLen := 0, runSkip := 0 } := by
  simp only [State.issue, State.account, State.issueRead, h, hk]
  rfl

theorem issue_line {s : State} {r : ReadRecord} (h : s.slot.record = some r) (hk : r.kind = .line) :
    s.issue .readSlot =
      (((s.account .readSlot).setRead (some { r with phase := .inFlight, line := some s.lineset.choose })).setLine
        s.lineset.choose (.filling false r.entry (lineAddr r.word))).startTransfer
        { client := .readSlot, kind := .lineFill, entry := some r.entry, first := lineAddr r.word,
          beats := List.replicate 8 fullBeat, beatsDone := 0, readData := [], discard := false,
          beatTimer := s.beatTimer, runLen := 0, runSkip := 0 } := by
  simp only [State.issue, State.account, State.issueRead, h, hk]
  rfl

/-- An issue neither reads nor changes the ownership state and the lines (R70). -/
theorem issue_with (c : Client) (o : Ownership) (p : Pins) (s : State) :
    State.issue c { s with pins := p, master := { s.master with own := o } } =
      { State.issue c s with pins := p, master := { (State.issue c s).master with own := o } } := by
  cases c with
  | readSlot =>
    cases hr : s.slot.record with
    | none =>
      simp only [State.issue, State.account, State.issueRead, hr]
      rfl
    | some r =>
      cases hk : r.kind with
      | single =>
        rw [issue_single hr hk, issue_single (s := { s with pins := p, master := { s.master with own := o } }) hr hk]
        rfl
      | line =>
        rw [issue_line hr hk, issue_line (s := { s with pins := p, master := { s.master with own := o } }) hr hk]
        rfl
  | pwq =>
    cases hr : s.pwq.records with
    | nil =>
      simp only [State.issue, State.account, State.issueWrite, hr]
      rfl
    | cons r rest =>
      rw [issue_pwq hr, issue_pwq (s := { s with pins := p, master := { s.master with own := o } }) hr]
      rfl
  | inbound => rfl
  | outbound => rfl

/-- An issue changes the master by the arbiter's bookkeeping and the transfer only (R78). -/
theorem issue_books (c : Client) (s : State) :
    { (s.issue c).master with transfer := s.master.transfer } = (s.account c).master := by
  cases c with
  | readSlot =>
    cases hr : s.slot.record with
    | none =>
      simp only [State.issue, State.account, State.issueRead, hr]
    | some r =>
      cases hk : r.kind with
      | single =>
        rw [issue_single hr hk]
        rfl
      | line =>
        rw [issue_line hr hk]
        rfl
  | pwq =>
    cases hr : s.pwq.records with
    | nil =>
      simp only [State.issue, State.account, State.issueWrite, hr]
    | cons r rest =>
      rw [issue_pwq hr]
      rfl
  | inbound => rfl
  | outbound => rfl

/-- The line a fill takes (R48). -/
theorem choose_line (ls : LineSet) :
    (ls.line0 = .invalid → ls.choose = 0) ∧ (ls.line0 ≠ .invalid → ls.line1 = .invalid → ls.choose = 1) ∧
      ∀ e0 a0 d0 t0 e1 a1 d1 t1, ls.line0 = .valid e0 a0 d0 t0 → ls.line1 = .valid e1 a1 d1 t1 →
        ls.choose = if t1 < t0 then 1 else 0 := by
  obtain ⟨l0, l1, f, r⟩ := ls
  refine ⟨?_, ?_, ?_⟩
  · rintro rfl
    cases l1 <;> rfl
  · rintro h rfl
    cases l0 with
    | invalid => exact absurd rfl h
    | filling b e a => rfl
    | valid e a d t => rfl
  · rintro e0 a0 d0 t0 e1 a1 d1 t1 rfl rfl
    rfl

/-! ### LBGNT asserted -/

theorem exec_lbgntAsserted {s : State} (hp : s.pins.pon = false) :
    exec .lbgntAsserted s = .next ((s.grantLevel true).regainGrant).poll :=
  congrArg _ (if_neg (by simp [hp]))

theorem regainGrant_idle {s : State} (h : s.master.own ≠ .yielding .withdrawn) : s.regainGrant = s := by
  unfold State.regainGrant
  split
  next hw => exact absurd hw h
  all_goals rfl

/-- A REQUESTING master takes the grant, or ends the request with no client eligible (R69, R70). -/
theorem grant_requesting {s : State} (hp : s.pins.pon = false) {n : Nat} {p : Patience}
    (ho : s.master.own = .requesting n p) :
    exec .lbgntAsserted s = .next (if s.anyEligible then (s.grantLevel true).takeGrant else (s.grantLevel true).release) := by
  have own : (s.grantLevel true).master.own = .requesting n p := ho
  rw [exec_lbgntAsserted hp, regainGrant_idle (own.trans_ne nofun), poll_requesting own]
  rfl

/-- Settles O39: by ownership state, then by the chosen client. -/
theorem grantIssuesTheChosenTransfer : Obligations.GrantIssuesTheChosenTransfer := by
  refine ⟨issue_with, ?_⟩
  intro s hp level shape
  refine ⟨fun hs hr hw => ?_, fun ho => ?_, fun n p ho => ⟨fun he => ?_, fun c hc => ?_⟩⟩
  · obtain ⟨_, released, _, holding⟩ := hs
    rw [exec_lbgntAsserted hp, regainGrant_idle (show (s.grantLevel true).master.own ≠ _ from hw)]
    congr 1
    cases ho : s.master.own with
    | released => exact poll_released (s := level) ho (released ho)
    | requesting n p => exact absurd ho (hr n p)
    | transferring => exact poll_owned (s := level) (.inl ho)
    | holding h => exact (poll_holding (s := level) ho).2 (choose_none (s := level) (holding h ho))
    | yielding w => exact poll_owned (s := level) (.inr ⟨w, ho⟩)
  · have regained : (s.grantLevel true).regainGrant = level.setOwn .transferring := by
      have own : (s.grantLevel true).master.own = .yielding .withdrawn := ho
      simp only [State.regainGrant, own]
      rfl
    rw [exec_lbgntAsserted hp, regained, poll_owned (.inl rfl)]
    rfl
  · rw [grant_requesting hp ho, if_neg (by simp [he])]
    rfl
  · have granted := grant_requesting hp ho
    rw [if_pos ((anyEligible_iff s).2 ⟨c, hc⟩), takeGrant_chosen (s := s.grantLevel true) hc] at granted
    obtain ⟨o, hown⟩ : ∃ o, o = if s.pins.lyld = true ∧ s.master.yieldHonor = true then
        Ownership.yielding .yielded else .transferring := ⟨_, rfl⟩
    have yields : (if (s.grantLevel true).yieldAsked = true then Ownership.yielding .yielded else .transferring) = o :=
      (if_congr (yieldAsked_iff s) rfl rfl).trans hown.symm
    rw [yields] at granted
    rw [← hown]
    refine ⟨_, granted, ?_, rfl, fun r rest hcl hr => ?_, fun r hcl hr hk => ?_, fun r hcl hr hk => ?_, fun hcl => ?_,
      fun hcl => ?_⟩
    · rw [show s.master.transfer = ((s.grantLevel true).setOwn o).master.transfer from rfl, issue_books]
      cases c <;> rfl
    · rw [hcl, issue_pwq (s := (s.grantLevel true).setOwn o) hr]
      exact ⟨rfl, rfl⟩
    · rw [hcl, issue_single (s := (s.grantLevel true).setOwn o) hr hk]
      exact ⟨rfl, rfl⟩
    · obtain ⟨first, second, older⟩ := choose_line s.lineset
      rw [hcl, issue_line (s := (s.grantLevel true).setOwn o) hr hk]
      exact ⟨s.lineset.choose, first, second, older, rfl, rfl⟩
    · rw [hcl]
      exact ⟨rfl, rfl⟩
    · rw [hcl]
      exact ⟨rfl, rfl⟩

/-! ### LBGNT withdrawn, LYLD and YIELD_HONOR -/

/-- The ownership states in which a line change finds nothing to end or to mark. -/
def State.idleBus (s : State) : Prop := s.master.own = .released ∨ ∃ n p, s.master.own = .requesting n p

/-- A withdrawal of LBGNT by ownership state (R74). -/
theorem loseGrant_by_own (s : State) :
    (s.master.own = .transferring → s.loseGrant = s.setOwn (.yielding .withdrawn)) ∧
    (∀ h, s.master.own = .holding h → s.loseGrant = s.release) ∧
    (s.idleBus ∨ (∃ w, s.master.own = .yielding w) → s.loseGrant = s) := by
  refine ⟨fun h => ?_, fun t h => ?_, ?_⟩
  · simp only [State.loseGrant, h]
  · simp only [State.loseGrant, h]
  · rintro ((h | ⟨n, p, h⟩) | ⟨w, h⟩) <;> simp only [State.loseGrant, h]

/-- An honoured LYLD by ownership state (R73). -/
theorem yieldBus_by_own {s : State} (hy : s.yieldAsked = true) :
    (s.master.own = .transferring ∨ s.master.own = .yielding .withdrawn → s.yieldBus = s.setOwn (.yielding .yielded)) ∧
    (∀ h, s.master.own = .holding h → s.yieldBus = s.release) ∧
    (s.idleBus ∨ s.master.own = .yielding .yielded → s.yieldBus = s) := by
  refine ⟨?_, fun t h => ?_, ?_⟩
  · rintro (h | h) <;> simp only [State.yieldBus, hy, if_true, h]
  · simp only [State.yieldBus, hy, if_true, h]
  · rintro ((h | ⟨n, p, h⟩) | h) <;> simp only [State.yieldBus, hy, if_true, h]

theorem yieldBus_unasked {s : State} (hy : s.yieldAsked = false) : s.yieldBus = s := if_neg (by simp [hy])

theorem unyield_idle {s : State} (h : s.master.own ≠ .yielding .yielded) : s.unyield = s := by
  unfold State.unyield
  split
  next hw => exact absurd hw h
  all_goals rfl

/-- Settles O40: each command by ownership state. -/
theorem linesTakenByOwnershipState : Obligations.LinesTakenByOwnershipState := by
  intro s own freed stays lost asked honor yields
  have yielding {i : Instr} {t : State} (hi : exec i s = .next t.yieldBus) (hy : t.yieldAsked = true)
      (ht : t.master.own = s.master.own) (hn : t.now = s.now) : yields i t := by
    obtain ⟨owned, holding, idle⟩ := yieldBus_by_own hy
    have stands (h : stays) : t.idleBus := h.imp ht.trans fun ⟨n, p, h⟩ => ⟨n, p, ht.trans h⟩
    have ended : t.release = freed t := by
      simp only [State.release, freed, hn]
    exact ⟨fun h => hi.trans (congrArg _ (owned (h.imp ht.trans ht.trans))),
      fun w h => hi.trans (congrArg _ ((holding w (ht.trans h)).trans ended)),
      fun h => hi.trans (congrArg _ (idle (h.imp stands ht.trans)))⟩
  refine ⟨fun hp => ?_, fun hc => ?_⟩
  · have unheld : ¬ s.pins.pon = true := by simp [hp]
    have withdraws : exec .lbgntWithdrawal s = .next lost.loseGrant := congrArg _ (if_neg unheld)
    have asserts : exec .lyldAsserted s = .next asked.yieldBus := congrArg _ (if_neg unheld)
    obtain ⟨owned, holding, idle⟩ := loseGrant_by_own lost
    exact ⟨fun h => withdraws.trans (congrArg _ (owned h)), fun t h => withdraws.trans (congrArg _ (holding t h)),
      fun h => withdraws.trans (congrArg _ (idle h)),
      fun hy => yielding asserts ((yieldAsked_iff asked).2 ⟨rfl, hy⟩) rfl rfl,
      fun hy => asserts.trans (congrArg _ (yieldBus_unasked (by simp [State.yieldAsked, asked, hy]))),
      congrArg _ (if_neg unheld)⟩
  · have gives (v : Bool) : exec (.yieldHonor v) s = .next (s.writeYieldHonor v) := next_localWrite hc rfl
    refine ⟨fun hy => yielding (gives true) ((yieldAsked_iff (honor true)).2 ⟨hy, rfl⟩) rfl rfl,
      fun hy => (gives true).trans (congrArg _ (yieldBus_unasked (by simp [State.yieldAsked, hy]))), fun h => ?_,
      fun h => ?_⟩
    · have given : (honor false).unyield = own (honor false) (if s.pins.lbgnt then .transferring else .yielding .withdrawn) := by
        have held : (honor false).master.own = .yielding .yielded := h
        simp only [State.unyield, held]
        rfl
      have settled : (own (honor false) (if s.pins.lbgnt then .transferring else .yielding .withdrawn)).poll =
          own (honor false) (if s.pins.lbgnt then .transferring else .yielding .withdrawn) := by
        refine poll_owned ?_
        cases s.pins.lbgnt
        · exact .inr ⟨.withdrawn, rfl⟩
        · exact .inl rfl
      exact (gives false).trans (congrArg _ ((congrArg State.poll given).trans settled))
    · exact (gives false).trans (congrArg _ (congrArg State.poll (unyield_idle (s := honor false) h)))

/-! ### The bus timers -/

/-- A write of GRANT_PATIENCE by ownership state (R76). -/
theorem writeGrantPatience_by_own (v : BitVec 8) (s : State) :
    ((∀ n p, s.master.own ≠ .requesting n p) ∨ (∃ n, s.master.own = .requesting n .expired) →
      s.writeGrantPatience v = { s with master := { s.master with grantPatience := v } }) ∧
    (∀ n p, s.master.own = .requesting n p → p ≠ .expired → s.writeGrantPatience v =
      if v = 0#8 then ({ s with master := { s.master with grantPatience := v } } : State).setOwn (.requesting n .stopped)
      else if v.toNat ≤ s.now - n then
        ({ s with master := { s.master with grantPatience := v } } : State).expirePatience n
      else ({ s with master := { s.master with grantPatience := v } } : State).setOwn (.requesting n .running)) := by
  refine ⟨?_, fun n p ho hp => ?_⟩
  · rintro (h | ⟨n, ho⟩)
    · unfold State.writeGrantPatience
      simp only
      split
      next n ho => exact absurd ho (h _ _)
      next n p _ ho => exact absurd ho (h _ _)
      next => rfl
    · simp only [State.writeGrantPatience, ho, State.setOwn]
  · cases p with
    | expired => exact absurd rfl hp
    | stopped => simp only [State.writeGrantPatience, ho]
    | running => simp only [State.writeGrantPatience, ho]

/-- A request that begins when its command is taken (R69). -/
theorem poll_request {s : State} (ho : s.master.own = .released) (he : s.anyEligible = true)
    (hy : s.yieldAsked = false) (hm : s.markPassed = true) :
    s.poll = if s.pins.lbgnt then s.enterRequesting.takeGrant else s.enterRequesting :=
  poll_begins ho ⟨he, hy, hm⟩

/-- Settles O41: each timer by what it finds running. -/
theorem busTimersAndTheirExpiries : Obligations.BusTimersAndTheirExpiries := by
  intro v s request slow stored begun
  refine ⟨fun hc => ?_, fun hp => ?_⟩
  · have written : exec (.grantPatience v) s = .next (s.writeGrantPatience v) := next_localWrite hc rfl
    obtain ⟨kept, moved⟩ := writeGrantPatience_by_own v s
    refine ⟨fun h => written.trans (congrArg _ (kept (.inl h))),
      fun n h => written.trans (congrArg _ (kept (.inr ⟨n, h⟩))), fun n p ho hne => ?_⟩
    have cases := moved n p ho hne
    exact ⟨fun h0 => written.trans (congrArg _ (cases.trans (if_pos h0))),
      fun h0 hle => written.trans (congrArg _ (cases.trans ((if_neg h0).trans (if_pos hle)))),
      fun h0 hlt => written.trans (congrArg _ (cases.trans ((if_neg h0).trans (if_neg (Nat.not_le.2 hlt)))))⟩
  · have taken (f : State → State) : unlessPon f s = f s := unlessPon_taken hp f
    have patience : exec .grantPatienceExpiry s = .next s.expireGrantPatience := congrArg _ (taken _)
    have hold : exec .holdExpiry s = .next s.expireHold := congrArg _ (taken _)
    have linger : exec .lingerExpiry s = .next s.expireLinger := congrArg _ (taken _)
    have request' : exec .requestBegin s = .next s.beginRequest := congrArg _ (taken _)
    refine ⟨fun n ho => ?_, fun h => ?_, fun t ho => ?_, fun h => ?_, fun n hl => ?_, fun h => ?_, fun ho he hy => ?_,
      fun h => ?_⟩
    · rw [patience]
      simp only [State.expireGrantPatience, ho]
      rfl
    · refine patience.trans (congrArg _ ?_)
      unfold State.expireGrantPatience
      split
      next n ho => exact absurd ho (h n)
      next => rfl
    · rw [hold]
      simp only [State.expireHold, ho]
      rfl
    · refine hold.trans (congrArg _ ?_)
      unfold State.expireHold
      split
      next t ho => exact absurd ho (h t)
      next => rfl
    · rw [linger]
      simp only [State.expireLinger, hl]
      rfl
    · refine linger.trans (congrArg _ ?_)
      unfold State.expireLinger
      split
      next n hl => exact absurd hl (h n)
      next => rfl
    · cases hm : s.master.releaseMark with
      | none =>
        have begins : s.beginRequest = s.poll := by simp only [State.beginRequest, ho, he, hy, hm, and_self, if_true]
        have polled := poll_request ho he hy ((markPassed_iff s).2 (by simp [hm]))
        exact ⟨s.enterRequesting, request'.trans (congrArg _ (begins.trans polled)), nofun, fun _ => rfl⟩
      | some m =>
        have begins : s.beginRequest = State.poll { s with now := max s.now (m + 1) } := by
          simp only [State.beginRequest, ho, he, hy, hm, and_self, if_true]
        have passed : State.markPassed { s with now := max s.now (m + 1) } = true :=
          (markPassed_iff _).2 fun m' h' => by
            have : m' = m := Option.some_inj.1 (h'.symm.trans hm)
            simp only
            omega
        have polled := poll_request (s := { s with now := max s.now (m + 1) }) ho he hy passed
        refine ⟨State.enterRequesting { s with now := max s.now (m + 1) },
          request'.trans (congrArg _ (begins.trans polled)), fun m' h' => ?_, nofun⟩
        obtain rfl := Option.some_inj.1 h'
        rfl
    · refine request'.trans (congrArg _ (if_neg ?_))
      rintro ⟨ho, he, hy⟩
      rcases h with h | h | h
      · exact h ho
      · simp [h] at he
      · simp [h] at hy

end Sys2Proof.Machine

/-! SUPPORT and PROOFS. The lines' commands and their age (R54, R56), the beats of a transfer and discarded transfers
(R65 to R67, R172). -/

namespace Sys2Proof.Machine

/-! ### The lines -/

/-- An invalidation of both lines (R54), case by case. -/
theorem strike_eq (l : Line) :
    l.strike = match (motive := Line → Line) l with
      | .valid _ _ _ _ => .invalid
      | .filling _ e a => .filling true e a
      | .invalid => .invalid := by
  cases l <;> rfl

/-- A line at or past an age is emptied (R56), case by case. -/
theorem strike_aged (v : BitVec 8) (now : Nat) (l : Line) :
    (if l.aged v now then l.strike else l) = match (motive := Line → Line) l with
      | .valid e a d t => if v ≠ 0#8 ∧ v.toNat ≤ now - t then .invalid else .valid e a d t
      | .filling b e a => .filling b e a
      | .invalid => .invalid := by
  cases l with
  | invalid => rfl
  | filling b e a => rfl
  | valid e a d t =>
    have aged : (Line.valid e a d t).aged v now = true ↔ v ≠ 0#8 ∧ v.toNat ≤ now - t := by simp [Line.aged]
    exact if_congr aged rfl rfl

/-- Settles O42: each command by the kinds of the lines. -/
theorem lineCommandsAndFreshness : Obligations.LineCommandsAndFreshness := by
  intro v i s aged struck
  refine ⟨fun hc => ⟨?_, ?_⟩, fun hp => ⟨fun e a d t hv hf => ?_, fun h => ?_⟩⟩
  · have eq (l : Line) : l.strike = struck l := (strike_eq l).trans (by cases l <;> rfl)
    rw [← eq, ← eq]
    exact next_localWrite hc rfl
  · have eq (l : Line) : (if l.aged v s.now then l.strike else l) = aged l :=
      (strike_aged v s.now l).trans (by cases l <;> rfl)
    rw [← eq, ← eq]
    exact next_localWrite hc rfl
  · have expiry : exec (.freshnessExpiry i) s = .next (s.expireLine i) := congrArg _ (unlessPon_taken hp _)
    rw [expiry]
    simp only [State.expireLine, hv, if_neg hf]
    rfl
  · refine (congrArg _ (unlessPon_taken hp (State.expireLine i))).trans (congrArg _ ?_)
    unfold State.expireLine
    split
    next e a d t hv => exact if_pos (h.resolve_right fun hn => hn e a d t hv)
    next => rfl

/-! ### Beats and discarded transfers -/

/-- A beat that is not the last (R65, R66). -/
theorem takeLack_middle {s : State} {x : Transfer} (ld : Word) (hx : s.master.transfer = some x)
    (hl : x.beatsDone + 1 < x.beats.length) : s.takeLack ld = s.startTransfer (x.acked ld s.beatTimer) := by
  simp only [State.takeLack, hx]
  exact if_pos hl

theorem takeLack_ends {s : State} {x : Transfer} (ld : Word) (hx : s.master.transfer = some x)
    (hl : x.beats.length ≤ x.beatsDone + 1) :
    s.takeLack ld = s.endTransfer (x.acked ld s.beatTimer) (State.deliverOk (x.acked ld s.beatTimer)) := by
  simp only [State.takeLack, hx]
  exact if_neg (Nat.not_lt.2 hl)

/-- A discarded transfer hands its result to no client (R67). -/
theorem endTransfer_discard {s : State} {x : Transfer} (hd : x.discard = true) (f : State → State) :
    s.endTransfer x f =
      if s.power.resetBusy then State.carryOut { s with master := { s.master with transfer := none } }
      else State.settle (s.transferHold x) { s with master := { s.master with transfer := none } } := by
  simp only [State.endTransfer, hd, if_true]

/-- The expiry of a beat's timer (R66). -/
theorem expireBeat_eq {s : State} {x : Transfer} (hx : s.master.transfer = some x) :
    s.expireBeat = ({ s with now := max s.now (x.beatTimer.start + x.beatTimer.limit) } : State).endTransfer x
      (State.deliverFailure x .localTimeout) := by
  have late : (s.reach x.beatTimer).master.transfer = some x := hx
  simp only [State.expireBeat, hx, State.failBeat, late]
  rfl

theorem failBeat_eq {s : State} {x : Transfer} (k : FaultKind) (hx : s.master.transfer = some x) :
    s.failBeat k = s.endTransfer x (State.deliverFailure x k) := by
  simp only [State.failBeat, hx]

/-- Settles O44: by the transfer, its beats left and the discard. -/
theorem beatsAndDiscardedTransfers : Obligations.BeatsAndDiscardedTransfers := by
  intro ld s hp
  have taken (f : State → State) : unlessPon f s = f s := unlessPon_taken hp f
  have lack : exec (.lack ld) s = .next (s.takeLack ld) := congrArg _ (taken _)
  have lerr : exec .lerr s = .next (s.failBeat .localError) := congrArg _ (taken _)
  have expiry : exec .ackLimitExpiry s = .next s.expireBeat := congrArg _ (taken _)
  refine ⟨fun hx => ?_, ?_⟩
  · rw [lack, lerr, expiry]
    simp only [State.takeLack, State.failBeat, State.expireBeat, hx, and_self]
  intro x hx timer ended late
  refine ⟨fun hl => ⟨fun hk => ?_, fun hk => ?_⟩, fun hd hb => ?_, fun hd hb => ?_⟩
  · rw [lack, takeLack_middle ld hx hl, Transfer.acked, if_pos hk]
    rfl
  · have reads : ¬ (x.kind = .singleWrite ∨ x.kind = .streamMove) := by
      rcases hk with hk | hk | hk <;> simp [hk]
    rw [lack, takeLack_middle ld hx hl, Transfer.acked, if_neg reads]
    rfl
  · have settles {t : State} (y : Transfer) (hy : y.discard = true) (ht : t.power.resetBusy = false) (f : State → State) :
        t.endTransfer y f = State.settle (t.transferHold y) { t with master := { t.master with transfer := none } } := by
      rw [endTransfer_discard hy, if_neg (by simp [ht])]
    refine ⟨fun hl => ?_, ?_, ?_⟩
    · rw [lack, takeLack_ends ld hx hl, settles (x.acked ld s.beatTimer) hd hb]
      rfl
    · rw [lerr, failBeat_eq _ hx, settles x hd hb]
    · rw [expiry, expireBeat_eq hx, settles (t := late) x hd hb]
      rfl
  · have carries {t : State} (y : Transfer) (hy : y.discard = true) (ht : t.power.resetBusy = true) (f : State → State) :
        t.endTransfer y f = State.carryOut { t with master := { t.master with transfer := none } } := by
      rw [endTransfer_discard hy, if_pos ht]
    refine ⟨fun hl => ?_, ?_, ?_⟩
    · rw [lack, takeLack_ends ld hx hl, carries (x.acked ld s.beatTimer) hd hb]
    · rw [lerr, failBeat_eq _ hx, carries x hd hb]
    · rw [expiry, expireBeat_eq hx, carries (t := late) x hd hb]

end Sys2Proof.Machine

/-! SUPPORT and PROOFS. The end of a PWQ record's transfer and what it does to waiting work (R12, R14, R29 to R32, R36,
R37, R47, R52, R57, R96, R97). -/

namespace Sys2Proof.Machine

/-! ### A retry -/

theorem retryWaiting_of_no_slotWait {s : State} (h : ∀ w, s.pwq.held ≠ .slotWait w) : s.retryWaiting = s :=
  (retryWaiting_cases s).resolve_right fun ⟨w, hw, _⟩ => h w hw

section
variable {s : State} {w : HostWrite} (hw : s.pwq.held = .slotWait w)
include hw

/-- A write whose entry has left OPEN ends (R14). -/
theorem retryWaiting_ended (ho : ¬ s.isOpen w.entry = true) : s.retryWaiting = s.endWaiting w := by
  simp only [State.retryWaiting, hw]
  exact if_neg ho

theorem retryWaiting_full (ho : s.isOpen w.entry = true) (hp : s.place w = none) : s.retryWaiting = s := by
  simp only [State.retryWaiting, hw, hp]
  exact if_pos ho

/-- A write that finds its place is admitted: the host waits for its record if it is STRICT, else is released (R32, R34). -/
theorem retryWaiting_placed (ho : s.isOpen w.entry = true) {rs : List WriteRecord} {seq : BitVec 8}
    (hp : s.place w = some (({ s with pwq := { s.pwq with records := rs, seq := seq } } : State).admitted w)) :
    s.retryWaiting = State.slideAt w.entry w.word (State.strikeWord w.word (if w.strict
      then { s with pwq := { records := rs, seq := seq, held := .recordWait s.pwq.seq } }
      else { s with
        pwq := { records := rs, seq := seq, held := .none }, hostReply := .written, stall := none })) := by
  simp only [State.retryWaiting, hw, hp, State.admitted]
  refine (if_pos ho).trans ?_
  cases w.strict with
  | true => exact slideAt_apart (f := State.setHeld _) (fun _ => rfl) (fun _ _ => rfl) _ _
  | false =>
    exact slideAt_apart (f := fun s => (s.setHeld .none).releaseHost .written) (fun _ => rfl) (fun _ _ => rfl) _ _

end

/-- A retry keeps the phase of every entry (R14, R22). -/
theorem retryWaiting_phase (s : State) (e : EntryIdx) :
    (s.retryWaiting.live e).map (·.phase) = (s.live e).map (·.phase) := by
  have counted (f : EntryIdx) (u : State) : ((u.countRefused f).live e).map (·.phase) = (u.live e).map (·.phase) := by
    unfold State.countRefused
    cases hl : u.live f with
    | none => rfl
    | some l =>
      simp only
      split
      · rfl
      · rw [live_setLive]
        split
        next h => rw [h, hl]; rfl
        next => rfl
  have slid (f : EntryIdx) (word : Word) (u : State) : ((u.slideAt f word).live e).map (·.phase) =
      (u.live e).map (·.phase) := by
    unfold State.slideAt
    cases hl : u.live f with
    | none => rfl
    | some l =>
      simp only
      split
      · rw [live_setLive]
        split
        next h => rw [h, hl]; rfl
        next => rfl
      · rfl
  rcases retryWaiting_cases s with eq | ⟨w, hw, ⟨_, eq⟩ | ⟨t, ho, ht, eq⟩⟩ <;> rw [eq]
  · exact counted w.entry _
  · have placed : (t.live e).map (·.phase) = (s.live e).map (·.phase) := by
      rcases place_cases w s with ⟨rs, _, hp⟩ | ⟨_, _, hp⟩ | ⟨_, _, hp⟩ <;> rw [ht] at hp <;> cases hp
      · exact slid w.entry w.word _
      · exact slid w.entry w.word _
    rw [← placed]
    split <;> rfl

theorem isSuspended_iff (s : State) (e : EntryIdx) :
    s.isSuspended e = true ↔ (s.live e).map (·.phase) = some .suspended := by
  unfold State.isSuspended
  cases s.live e <;> simp

/-! ### A suspension and the test of the ordering condition -/

/-- A suspension answers the entry's read in ORDER_WAIT and no other (R57). -/
theorem fillSuspended_by_record (e : EntryIdx) (s : State) :
    ((∀ r ∈ s.slot.record, r.phase = .orderWait → r.entry ≠ e) → s.fillSuspended e = s) ∧
    (∀ r, s.slot.record = some r → r.phase = .orderWait → r.entry = e → s.fillSuspended e =
      { s with slot := { s.slot with record := none }, hostReply := .read 0xFFFF#16, stall := none }) := by
  refine ⟨fun h => ?_, fun r hr hp he => ?_⟩
  · unfold State.fillSuspended
    split
    next r hr => exact if_neg fun hc => h r hr hc.1 hc.2
    next => rfl
  · simp only [State.fillSuspended, hr]
    exact if_pos ⟨hp, he⟩

/-- The test of a read in ORDER_WAIT with the queue empty and no orphan (R47, R52). -/
theorem testOrder_ordered {s : State} {r : ReadRecord} (hr : s.slot.record = some r) (hp : r.phase = .orderWait)
    (hq : s.pwq.records = [] ∧ s.slot.orphan = none) :
    (∀ d, r.kind = .line → s.linePermit = true → s.lineset.serves r.entry r.word = some d →
      s.testOrder = s.answerRead r d) ∧
    ((¬ (r.kind = .line ∧ s.linePermit = true) ∨ s.lineset.serves r.entry r.word = none) →
      s.testOrder = s.setRead (some { r with phase := .busWait })) := by
  have test : r.phase = .orderWait ∧ s.pwq.records = [] ∧ s.slot.orphan = none := ⟨hp, hq⟩
  refine ⟨fun d hk hl hd => ?_, fun h => ?_⟩
  · simp only [State.testOrder, hr, if_pos test, if_pos (And.intro hk hl), hd]
  · have missed : (if r.kind = .line ∧ s.linePermit = true then s.lineset.serves r.entry r.word else none) = none := by
      split
      next hc => exact h.resolve_left (not_not.2 hc)
      next => rfl
    simp only [State.testOrder, hr, if_pos test, missed]

theorem testOrder_idle {s : State}
    (h : ∀ r ∈ s.slot.record, ¬ (r.phase = .orderWait ∧ s.pwq.records = [] ∧ s.slot.orphan = none)) :
    s.testOrder = s := by
  unfold State.testOrder
  split
  next r hr => exact if_neg (h r hr)
  next => rfl

/-! ### What leaves with a record -/

/-- The host is held on one of some sequence numbers (R36, R37). -/
def State.waitsOn (s : State) (seqs : List (BitVec 8)) : Bool :=
  match s.pwq.held with
  | .recordWait q => seqs.contains q
  | .slotWait _ => false
  | .none => false

theorem waitsOn_iff (s : State) (seqs : List (BitVec 8)) :
    s.waitsOn seqs = true ↔ ∃ q ∈ seqs, s.pwq.held = .recordWait q := by
  unfold State.waitsOn
  cases s.pwq.held <;> simp

/-- The release of a waiting host as one update (R36, R37). -/
theorem releaseWaiter_eq (seqs : List (BitVec 8)) (s : State) :
    s.releaseWaiter seqs = { s with
      pwq := { s.pwq with held := if s.waitsOn seqs then .none else s.pwq.held }
      hostReply := if s.waitsOn seqs then .written else s.hostReply
      stall := if s.waitsOn seqs then none else s.stall } := by
  rcases releaseWaiter_cases seqs s with ⟨hw, eq⟩ | ⟨hw, eq⟩ <;> rw [eq]
  · simp only [if_pos ((waitsOn_iff s seqs).2 hw)]
    rfl
  · simp only [if_neg ((waitsOn_iff s seqs).not.2 hw)]

theorem setLive_same {s : State} {e : EntryIdx} {o : Option LiveEntry} (h : s.live e = o) : s.setLive e o = s := by
  have entry : ({ s.table.entries[e] with live := o } : Entry) = s.table.entries[e] := by
    rw [← h]
    rfl
  simp only [State.setLive, entry]
  simp

/-- The entry after a record of it has left (R12). -/
def State.leftEntry (s : State) (e : EntryIdx) (l : LiveEntry) : Option LiveEntry :=
  if l.phase = .draining ∧ s.hasRecord e = false then none else some l

theorem afterLeave_eq {s : State} {e : EntryIdx} {l : LiveEntry} (hl : s.live e = some l) :
    s.afterLeave e = { s.setLive e (s.leftEntry e l) with
      events := if l.phase = .draining ∧ s.hasRecord e = false
        then { s.events with loc := { s.events.loc with table := true } } else s.events } := by
  simp only [State.afterLeave, hl, State.leftEntry]
  by_cases h : l.phase = .draining ∧ s.hasRecord e = false
  · simp only [if_pos h]
    rfl
  · simp only [if_neg h, setLive_same hl]

/-- The entry after a failure of a record of it (R13, R97). -/
def LiveEntry.failed (l : LiveEntry) : Option LiveEntry :=
  if l.phase = .opened then some { l with phase := .suspended } else none

theorem failEntry_live {s : State} {e : EntryIdx} {l : LiveEntry} (hl : s.live e = some l) (hp : l.phase ≠ .suspended) :
    s.failEntry e = ((s.setLive e l.failed).latchTable).strikeEntry e := by
  unfold LiveEntry.failed
  simp only [State.failEntry, hl]
  cases h : l.phase with
  | opened => rfl
  | draining => rfl
  | suspended => exact absurd h hp

/-! ### The end of a record's transfer -/

/-- The state that a completed head leaves to the retry (R36). -/
def State.headCompleted (s : State) (r : WriteRecord) (rest : List WriteRecord) (l : LiveEntry) : State :=
  { s.setLive r.entry ((s.setRecords rest).leftEntry r.entry l) with
    pwq := { records := rest, seq := s.pwq.seq, held := if s.waitsOn [r.seq] then .none else s.pwq.held }
    hostReply := if s.waitsOn [r.seq] then .written else s.hostReply
    stall := if s.waitsOn [r.seq] then none else s.stall
    events := if l.phase = .draining ∧ (s.setRecords rest).hasRecord r.entry = false
      then { s.events with loc := { s.events.loc with table := true } } else s.events }

theorem completeHead_eq {s : State} {r : WriteRecord} {rest : List WriteRecord} {l : LiveEntry}
    (hr : s.pwq.records = r :: rest) (hl : s.live r.entry = some l) :
    s.completeHead = (s.headCompleted r rest l).retryWaiting.testOrder := by
  have left : (((s.setRecords rest).releaseWaiter [r.seq]).afterLeave r.entry) = s.headCompleted r rest l := by
    have live : ((s.setRecords rest).releaseWaiter [r.seq]).live r.entry = some l := by
      rw [releaseWaiter_eq]
      exact hl
    rw [afterLeave_eq live, releaseWaiter_eq]
    rfl
  rw [← left]
  simp only [State.completeHead, hr]
  rfl

/-- The state that a failed head leaves to the retry (R96, R97). -/
def State.headFailed (s : State) (r : WriteRecord) (rest : List WriteRecord) (l : LiveEntry) (k : FaultKind) : State :=
  let siblings := rest.filter (fun q => q.entry = r.entry)
  let seqs := r.seq :: siblings.map (fun q => q.seq)
  { s.setLive r.entry l.failed with
    pwq := {
      records := rest.filter (fun q => q.entry ≠ r.entry), seq := s.pwq.seq
      held := if s.waitsOn seqs then .none else s.pwq.held }
    lineset := s.lineset.strikeIf (fun m => m.filledBy r.entry)
    hostReply := if s.waitsOn seqs then .written else s.hostReply
    stall := if s.waitsOn seqs then none else s.stall
    faults := (s.fault (writeFault r k siblings.length)).faults
    events := { s.events with loc := { s.events.loc with table := true } } }

theorem failHead_eq {s : State} {r : WriteRecord} {rest : List WriteRecord} {l : LiveEntry} (k : FaultKind)
    (hr : s.pwq.records = r :: rest) (hl : s.live r.entry = some l) (hp : l.phase ≠ .suspended) :
    s.failHead k = State.testOrder (if l.phase = .opened
      then State.fillSuspended r.entry (s.headFailed r rest l k).retryWaiting
      else (s.headFailed r rest l k).retryWaiting) := by
  have others : rest.filter (fun q => !decide (q.entry = r.entry)) = rest.filter (fun q => q.entry ≠ r.entry) := by simp
  have failed : ((((s.setRecords (rest.filter (fun q => q.entry ≠ r.entry))).fault (writeFault r k
      (rest.filter (fun q => decide (q.entry = r.entry))).length)).failEntry r.entry).releaseWaiter
        (r.seq :: (rest.filter (fun q => decide (q.entry = r.entry))).map (·.seq))) = s.headFailed r rest l k := by
    have live : ((s.setRecords (rest.filter (fun q => q.entry ≠ r.entry))).fault (writeFault r k
        (rest.filter (fun q => decide (q.entry = r.entry))).length)).live r.entry = some l := by
      rw [fault_eq]
      exact hl
    rw [failEntry_live live hp, releaseWaiter_eq, State.headFailed, fault_eq, fault_eq]
    rfl
  have suspended : (s.headFailed r rest l k).retryWaiting.isSuspended r.entry = true ↔ l.phase = .opened := by
    have live : (s.headFailed r rest l k).live r.entry = l.failed := live_setLive_self s r.entry l.failed
    rw [isSuspended_iff, retryWaiting_phase, live]
    unfold LiveEntry.failed
    split
    next ho => exact iff_of_true rfl ho
    next ho => exact iff_of_false nofun ho
  have handled : s.failHead k = State.testOrder (if (s.headFailed r rest l k).retryWaiting.isSuspended r.entry = true
      then State.fillSuspended r.entry (s.headFailed r rest l k).retryWaiting
      else (s.headFailed r rest l k).retryWaiting) := by
    rw [← failed, ← others]
    simp only [State.failHead, hr]
    rfl
  rw [handled]
  exact congrArg State.testOrder (if_congr suspended rfl rfl)

/-- The moment and the failure of a record's transfer (R37, R66). -/
theorem recordFails {s : State} {x : Transfer} {r : WriteRecord} {rest : List WriteRecord} {l : LiveEntry}
    (hb : s.power.resetBusy = false) (hx : s.master.transfer = some x) (hc : x.client = .pwq) (hd : x.discard = false)
    (hr : s.pwq.records = r :: rest) (hl : s.live r.entry = some l) (hp : l.phase ≠ .suspended) (k : FaultKind) :
    s.failBeat k = (State.testOrder (if l.phase = .opened
      then State.fillSuspended r.entry
        (State.retryWaiting (State.headFailed { s with master := { s.master with transfer := none } } r rest l k))
      else State.retryWaiting (State.headFailed { s with master := { s.master with transfer := none } } r rest l k))).settle
        (s.transferHold x) := by
  rw [failBeat_ends k hb hx hd]
  simp only [State.deliverFailure, hc]
  rw [failHead_eq (s := { s with master := { s.master with transfer := none } }) k hr hl hp]

/-- Settles O45: the retry, the suspension and the test by their conditions, then the two ends. -/
theorem writeTransferEnds : Obligations.WriteTransferEnds := by
  refine ⟨fun s h => retryWaiting_of_no_slotWait h, ?retry, fillSuspended_by_record, ?test, ?ends⟩
  case retry =>
    intro s w hw ended combines entered
    have opened : s.isOpen w.entry = true ↔ ∃ l ∈ s.live w.entry, l.phase = .opened := isOpen_iff s w.entry
    refine ⟨fun hl => ?_, fun l hl => ⟨fun hp => ?_, fun hp => ⟨fun older t ht hc => ?_, fun hn => ⟨fun room => ?_,
      fun full => ?_⟩⟩⟩⟩
    · rw [retryWaiting_ended hw (by simp [opened, hl])]
      have none : ((s.setHeld .none).releaseHost .written).live w.entry = none := hl
      simp only [State.endWaiting, State.countRefused, none]
      rfl
    · rw [retryWaiting_ended hw (by simp [opened, hl, hp]), State.endWaiting, countRefused_of_live (s := (s.setHeld .none).releaseHost .written) hl hp]
      rfl
    · have ho : s.isOpen w.entry = true := opened.2 ⟨l, hl, hp⟩
      have tail := combineTail_some w older t ((canCombine_iff w t).2 hc)
      rw [← ht] at tail
      exact retryWaiting_placed hw ho (place_combined tail)
    · have ho : s.isOpen w.entry = true := opened.2 ⟨l, hl, hp⟩
      have tail : combineTail w s.pwq.records = none :=
        combineTail_none _ _ fun older t ht => Bool.eq_false_iff.2 fun h => hn older t ht ((canCombine_iff w t).1 h)
      exact retryWaiting_placed hw ho (place_new tail room)
    · have ho : s.isOpen w.entry = true := opened.2 ⟨l, hl, hp⟩
      have tail : combineTail w s.pwq.records = none :=
        combineTail_none _ _ fun older t ht => Bool.eq_false_iff.2 fun h => hn older t ht ((canCombine_iff w t).1 h)
      exact retryWaiting_full hw ho (place_full tail full)
  case test =>
    intro s ordered
    refine ⟨fun h => testOrder_idle h, fun r hr hp hq => ?_⟩
    have permit : s.linePermit = true ↔ s.settings.s7.accepted = 1#4 := decide_eq_true_iff
    obtain ⟨hit, waits⟩ := testOrder_ordered hr hp hq
    refine ⟨fun i d t hm hv hfirst => ?_, fun hmiss => ?_⟩
    · exact hit _ hm.1 (permit.2 hm.2) (serves_first hv hfirst)
    · exact waits (hmiss.imp (fun hm h => hm ⟨h.1, permit.1 h.2⟩) serves_neither)
  case ends =>
    intro ld s x r rest l hpon hb hx hc hd hr hl hp hold tabled others siblings released rest_of failed
    let ended : State := { s with master := { s.master with transfer := none } }
    have frees {u : State} (seqs : List (BitVec 8)) (p : Prop) (hp : s.waitsOn seqs = true ↔ p)
        (held : u.pwq.held = if s.waitsOn seqs then .none else s.pwq.held)
        (reply : u.hostReply = if s.waitsOn seqs then .written else s.hostReply)
        (stall : u.stall = if s.waitsOn seqs then none else s.stall) : released u p :=
      ⟨fun h => ⟨held.trans (if_pos (hp.2 h)), reply.trans (if_pos (hp.2 h)), stall.trans (if_pos (hp.2 h))⟩,
        fun h => ⟨held.trans (if_neg (hp.not.2 h)), reply.trans (if_neg (hp.not.2 h)), stall.trans (if_neg (hp.not.2 h))⟩⟩
    have fails {i : Instr} {k : FaultKind} {now : Nat} (hi : exec i s = .next (({ s with now := now } : State).failBeat k)) :
        failed i k now := by
      have live := live_setLive_self { ended with now := now } r.entry l.failed
      refine ⟨State.headFailed { ended with now := now } r rest l k,
        hi.trans (congrArg _ (recordFails (s := { s with now := now }) hb hx hc hd hr hl hp k)), rfl, rfl,
        ⟨rfl, rfl, rfl, rfl, fun f hf => entries_setLive_ne s _ hf, editable_setLive s r.entry _, rfl⟩, rfl, ?_,
        fun ho => live.trans (if_pos ho), fun hdr => live.trans (if_neg (by simp [hdr])), fun i => ?_,
        frees _ _ (waitsOn_iff s _) rfl rfl rfl⟩
      · simp only [State.headFailed, fault_eq]
        rfl
      · exact (strikeIf_line ..).trans (if_congr decide_eq_true_iff rfl rfl)
    have taken (f : State → State) : unlessPon f s = f s := unlessPon_taken hpon f
    refine ⟨fun hlast => ?_, fails (congrArg _ (taken _)), fails ?_⟩
    · have live := live_setLive_self ended r.entry ((ended.setRecords rest).leftEntry r.entry l)
      have more : (ended.setRecords rest).hasRecord r.entry = true ↔ ∃ q ∈ rest, q.entry = r.entry := hasRecord_iff ..
      have completes : exec (.lack ld) s =
          .next ((State.testOrder (State.retryWaiting (ended.headCompleted r rest l))).settle hold) := by
        have delivered : State.deliverOk (x.acked ld s.beatTimer) ended = ended.completeHead := by
          have client : (x.acked ld s.beatTimer).client = .pwq := hc
          simp only [State.deliverOk, client]
        rw [← completeHead_eq (s := ended) hr hl, ← delivered]
        exact congrArg _ ((taken _).trans (takeLack_last ld hb hx hd hlast))
      have drained (hdr : l.phase = .draining) (hn : ∀ q ∈ rest, q.entry ≠ r.entry) :
          l.phase = .draining ∧ (ended.setRecords rest).hasRecord r.entry = false :=
        ⟨hdr, Bool.eq_false_iff.2 (more.not.2 fun ⟨q, hq, he⟩ => hn q hq he)⟩
      have stays (h : l.phase = .opened ∨ ∃ q ∈ rest, q.entry = r.entry) :
          ¬ (l.phase = .draining ∧ (ended.setRecords rest).hasRecord r.entry = false) := by
        rintro ⟨hdr, hn⟩
        rcases h with ho | hq
        · simp [ho] at hdr
        · simp [more.2 hq] at hn
      refine ⟨ended.headCompleted r rest l, completes, rfl, rfl,
        ⟨rfl, rfl, rfl, rfl, fun f hf => entries_setLive_ne s _ hf, editable_setLive s r.entry _, rfl⟩, rfl, rfl,
        fun hdr hn => ⟨live.trans (if_pos (drained hdr hn)), if_pos (drained hdr hn)⟩,
        fun h => ⟨live.trans (if_neg (stays h)), if_neg (stays h)⟩,
        frees [r.seq] _ ((waitsOn_iff s [r.seq]).trans (by simp)) rfl rfl rfl⟩
    · have late : s.expireBeat = (s.reach x.beatTimer).failBeat .localTimeout := by simp only [State.expireBeat, hx]
      exact congrArg _ ((taken _).trans late)

end Sys2Proof.Machine

/-! SUPPORT and PROOFS. The ends of a read's, an orphan's, a move's and a fetch's transfer (R49 to R51, R59, R106, R110,
R111, R113, R118, R120). -/

namespace Sys2Proof.Machine

/-! ### Reads and orphans -/

/-- The state that a transfer leaves for its client (R67). -/
def State.landed (s : State) : State := { s with master := { s.master with transfer := none } }

/-- The last LACK of a read transfer hands on the word on LD too (R65). -/
theorem acked_readData {x : Transfer} (ld : Word) (t : Timer) (h : ¬ (x.kind = .singleWrite ∨ x.kind = .streamMove)) :
    (x.acked ld t).readData = x.readData ++ [ld] := if_neg h

section
variable {s : State} {x : Transfer} (hp : s.pins.pon = false) (hb : s.power.resetBusy = false)
  (hx : s.master.transfer = some x) (hd : x.discard = false)
include hp hb hx hd

/-- The three ends of a transfer whose result goes to its client (R65, R66, R67). -/
theorem transferEnds (ld : Word) :
    (x.beats.length ≤ x.beatsDone + 1 → exec (.lack ld) s =
      .next ((State.deliverOk (x.acked ld s.beatTimer) s.landed).settle (s.transferHold x))) ∧
    exec .lerr s = .next ((State.deliverFailure x .localError s.landed).settle (s.transferHold x)) ∧
    exec .ackLimitExpiry s = .next ((State.deliverFailure x .localTimeout
      { s.landed with now := max s.now (x.beatTimer.start + x.beatTimer.limit) }).settle (s.transferHold x)) := by
  have taken (f : State → State) : unlessPon f s = f s := unlessPon_taken hp f
  have late : s.expireBeat = (s.reach x.beatTimer).failBeat .localTimeout := by simp only [State.expireBeat, hx]
  exact ⟨fun hl => congrArg _ ((taken _).trans (takeLack_last ld hb hx hd hl)),
    congrArg _ ((taken _).trans (failBeat_ends _ hb hx hd)),
    congrArg _ ((taken _).trans (late.trans (failBeat_ends (s := s.reach x.beatTimer) _ hb hx hd)))⟩

end

theorem filled_eq (words : List Word) (now : Nat) (l : Line) :
    l.filled words now = match (motive := Line → Line) l with
      | .filling true _ _ => .invalid
      | .filling false e a => .valid e a words now
      | other => other := by
  cases l with
  | filling b e a => cases b <;> rfl
  | invalid => rfl
  | valid e a d t => rfl

/-- The record in flight is the one that a read transfer answers (R67). -/
theorem slotDone_record {s : State} {r : ReadRecord} (x : Transfer) (hr : s.slot.record = some r) (hf : r.phase = .inFlight) :
    s.slotDone x = s.readDone r x.readData := by
  simp only [State.slotDone, hr, if_pos hf]

theorem slotFailed_record {s : State} {r : ReadRecord} (x : Transfer) (k : FaultKind) (hr : s.slot.record = some r)
    (hf : r.phase = .inFlight) : s.slotFailed x k = s.readFailed r k := by
  simp only [State.slotFailed, hr, if_pos hf]

/-- Without a record in flight the transfer is the orphan's (R59). -/
theorem slotDone_orphan {s : State} {o : Orphan} (x : Transfer) (ho : s.slot.orphan = some o)
    (hn : ∀ r ∈ s.slot.record, r.phase ≠ .inFlight) : s.slotDone x = s.orphanDone o x.readData := by
  unfold State.slotDone
  split
  next r hr => simp only [if_neg (hn r hr), ho, Option.elim]
  next => simp only [ho, Option.elim]

theorem slotFailed_orphan {s : State} {o : Orphan} (x : Transfer) (k : FaultKind) (ho : s.slot.orphan = some o)
    (hn : ∀ r ∈ s.slot.record, r.phase ≠ .inFlight) : s.slotFailed x k = s.orphanFailed o k x.first := by
  unfold State.slotFailed
  split
  next r hr => simp only [if_neg (hn r hr), ho, Option.elim]
  next => simp only [ho, Option.elim]

/-- The origin of a read's or an orphan's fault records (R51, R59). -/
theorem origin_eq (k : ReadKind) : k.origin = if k = .single then .hostRead else .lineFill := by
  cases k <;> rfl

theorem faultAddr_eq (r : ReadRecord) : r.faultAddr = if r.kind = .single then r.word else r.word &&& 0xFFFFFFE0#32 := by
  unfold ReadRecord.faultAddr
  cases r.kind <;> rfl

/-- Settles O46: the record in flight, or the orphan, in success and in failure. -/
theorem readTransferEnds : Obligations.ReadTransferEnds := by
  intro ld s x hp hb hx hc hd hk hold words ended late filled dropped
  have reads : ¬ (x.kind = .singleWrite ∨ x.kind = .streamMove) := by rcases hk with h | h <;> simp [h]
  have data : (x.acked ld s.beatTimer).readData = words := acked_readData ld _ reads
  obtain ⟨lack, lerr, expiry⟩ := transferEnds hp hb hx hd ld
  have ok (u : State) : State.deliverOk (x.acked ld s.beatTimer) u = u.slotDone (x.acked ld s.beatTimer) := by
    have client : (x.acked ld s.beatTimer).client = .readSlot := hc
    simp only [State.deliverOk, client]
  have failure (u : State) (k : FaultKind) : State.deliverFailure x k u = u.slotFailed x k := by
    simp only [State.deliverFailure, hc]
  have fill (i : Option LineIdx) : ended.fillLine i words = { ended with lineset := filled i } := by
    cases i with
    | none => rfl
    | some i =>
      have eq : ((ended.lineset.line i).filled words ended.now) = _ := filled_eq words s.now (s.lineset.line i)
      simp only [State.fillLine, eq]
      rfl
  have drop (u : State) (hu : u.lineset = s.lineset) (i : Option LineIdx) : u.dropLine i = { u with lineset := dropped i } := by
    cases i with
    | none =>
      change u = { u with lineset := s.lineset }
      rw [← hu]
    | some i =>
      simp only [State.dropLine, State.setLine, hu]
      rfl
  refine ⟨?_, ?_⟩
  · intro r hr hf word failed
    have wanted : r.wanted words = word := by
      simp only [ReadRecord.wanted, word]
      cases r.kind <;> rfl
    have fails (u : State) (hu : u.lineset = s.lineset) (hs : u.slot = s.slot) (k : FaultKind) :
        State.deliverFailure x k u = failed u k := by
      rw [failure, slotFailed_record x k (hs ▸ hr) hf, State.readFailed, drop u hu, origin_eq, faultAddr_eq]
      simp only [failed, State.fillRead, State.setRead, hs]
      rfl
    refine ⟨fun hl => ?_, ?_, ?_⟩
    · rw [lack hl, ok, slotDone_record (s := s.landed) _ hr hf, data, State.readDone,
        show s.landed.fillLine r.line words = _ from fill r.line, wanted]
      rfl
    · rw [lerr, fails s.landed rfl rfl]
      rfl
    · rw [expiry, fails { s.landed with now := max s.now (x.beatTimer.start + x.beatTimer.limit) } rfl rfl]
      rfl
  · intro o ho hn failed
    have fails (u : State) (hu : u.lineset = s.lineset) (hs : u.slot = s.slot) (k : FaultKind) :
        State.deliverFailure x k u = failed u k := by
      rw [failure, slotFailed_orphan x k (hs ▸ ho) (hs ▸ hn), State.orphanFailed, drop u hu, origin_eq]
      simp only [failed, State.setOrphan, hs]
    refine ⟨fun hl => ?_, ?_, ?_⟩
    · rw [lack hl, ok, slotDone_orphan (s := s.landed) _ ho hn, data, State.orphanDone,
        show s.landed.fillLine o.line words = _ from fill o.line]
      rfl
    · rw [lerr, fails s.landed rfl rfl]
      rfl
    · rw [expiry, fails { s.landed with now := max s.now (x.beatTimer.start + x.beatTimer.limit) } rfl rfl]
      rfl

/-! ### Moves and fetches -/

/-- The retry of a held write that still does not fit (R110). -/
theorem retryStream_waits {s : State} (h : ∀ bytes ∈ s.inb.held, 32 - s.inb.fifo.length < bytes.length) :
    s.retryStream = s := by
  unfold State.retryStream
  split
  next bytes hb => exact if_neg (Nat.not_le.2 (h bytes hb))
  next => rfl

/-- The retry of a held write whose bytes all fit (R109, R110, R111). -/
theorem retryStream_enters {s : State} {bytes : List Byte} (hb : s.inb.held = some bytes)
    (h : bytes.length ≤ 32 - s.inb.fifo.length) :
    s.retryStream = { s with
      inb := { s.inb with
        held := none, fifo := s.inb.fifo ++ bytes, msgLen := s.inb.msgLen + bytes.length,
        linger := if s.inb.fifo = [] ∧ bytes ≠ [] then .running s.now else s.inb.linger }
      hostReply := .written
      stall := none } := by
  simp only [State.retryStream, hb]
  exact if_pos h

/-- A line over any of some words is struck (R54, R113), case by case. -/
theorem strike_hit (words : List Word) (l : Line) :
    (if words.any (fun w => l.covers w) then l.strike else l) = match (motive := Line → Line) l with
      | .invalid => .invalid
      | .filling b e a => .filling (b || words.any (fun w => decide (a = w &&& 0xFFFFFFE0#32))) e a
      | .valid e a d t => if words.any (fun w => decide (a = w &&& 0xFFFFFFE0#32)) then .invalid else .valid e a d t := by
  have covers (a : Word) (h : l.addr? = some a) :
      words.any (fun w => l.covers w) = words.any (fun w => decide (a = w &&& 0xFFFFFFE0#32)) := by
    congr 1
    funext w
    simp [Line.covers, h, lineAddr]
  cases l with
  | invalid => exact ite_self _
  | filling b e a =>
    rw [covers a rfl]
    simp only
    cases words.any (fun w => decide (a = w &&& 0xFFFFFFE0#32)) with
    | true => exact congrArg (fun m => Line.filling m e a) (Bool.or_true b).symm
    | false => exact congrArg (fun m => Line.filling m e a) (Bool.or_false b).symm
  | valid e a d t => rw [covers a rfl]; rfl

/-- The boundaries that a move reaches (R113, R115). -/
theorem reachBoundaries_eq (size old n : Nat) (bs : List Boundary) :
    reachBoundaries size old n bs =
      bs.map (fun b => { b with visible := b.visible || decide (ringDist size old b.endPos ≤ n) }) := by
  refine List.map_congr_left fun b _ => ?_
  cases hv : b.visible <;> by_cases hd : ringDist size old b.endPos ≤ n <;> simp [hd, ← hv]

/-- The channel after a run left its FIFO (R111, R113). -/
theorem moved_eq (c : Inbound) (n : Nat) :
    c.moved n = { c with
      fifo := c.fifo.drop n, produce := (c.produce + n) % (2 * ringSize c.size),
      linger := if c.fifo.drop n = [] then .stopped else c.linger,
      boundaries := c.boundaries.map (fun b => { b with
        visible := b.visible || decide (ringDist (ringSize c.size) c.produce b.endPos ≤ n) }) } := by
  rw [Inbound.moved, reachBoundaries_eq]
  rfl

theorem moveDone_eq (n : Nat) (words : List Word) (s : State) :
    s.moveDone n words =
      let t := State.retryStream (State.strikeWords words { s with inb := { s.inb with
        fifo := s.inb.fifo.drop n, produce := (s.inb.produce + n) % (2 * ringSize s.inb.size),
        linger := if s.inb.fifo.drop n = [] then .stopped else s.inb.linger,
        boundaries := s.inb.boundaries.map (fun b => { b with
          visible := b.visible || decide (ringDist (ringSize s.inb.size) s.inb.produce b.endPos ≤ n) }) } })
      t.setInb (if t.inb.state = .flushing ∧ t.inb.fifo = [] then t.inb.turnOff else t.inb) := by
  rw [State.moveDone, moved_eq]
  rfl

/-- Settles O47: the retry, the strike, then both channels in success and in failure. -/
theorem streamTransferEnds : Obligations.StreamTransferEnds := by
  refine ⟨fun s => ⟨retryStream_waits, fun bytes => retryStream_enters⟩, ?strike, ?ends⟩
  case strike =>
    intro words s hit struck
    have eq (l : Line) : (if words.any (fun w => l.covers w) then l.strike else l) = struck l :=
      (strike_hit words l).trans (by cases l <;> rfl)
    rw [← eq, ← eq]
    rfl
  case ends =>
    intro ld s x hp hb hx hd hold ended late written record
    obtain ⟨lack, lerr, expiry⟩ := transferEnds hp hb hx hd ld
    refine ⟨?move, ?fetch⟩
    case move =>
      intro hc size tail halted
      have ok (u : State) : State.deliverOk (x.acked ld s.beatTimer) u = u.moveDone x.runLen (written (x.beatsDone + 1)) := by
        have client : (x.acked ld s.beatTimer).client = .inbound := hc
        simp only [State.deliverOk, client]
        rfl
      have failure (u : State) (hu : u.inb = s.inb) (hs : u.stream = s.stream) (hr : u.hostReply = s.hostReply)
          (ht : u.stall = s.stall) (k : FaultKind) : State.deliverFailure x k u = halted u k := by
        have fails : State.deliverFailure x k u = u.moveFailed k (written x.beatsDone) x.beatAddr := by
          simp only [State.deliverFailure, hc]
          rfl
        rw [fails]
        simp only [State.moveFailed, endHeldStream_eq, fault_eq, halted, ← hu, ← hs, ← hr, ← ht]
        rfl
      refine ⟨fun hl => ?_, ?_, ?_⟩
      · have done := moveDone_eq x.runLen (written (x.beatsDone + 1)) s.landed
        refine ⟨_, rfl, fun hdone => ?_, fun hopen => ?_⟩
        · rw [lack hl, ok, done]
          exact congrArg (fun c => Host.Outcome.next (State.settle hold (State.setInb c _))) (if_pos hdone)
        · rw [lack hl, ok, done]
          exact congrArg (fun c => Host.Outcome.next (State.settle hold (State.setInb c _))) (if_neg hopen)
      · rw [lerr, failure s.landed rfl rfl rfl rfl]
        rfl
      · rw [expiry, failure { s.landed with now := max s.now (x.beatTimer.start + x.beatTimer.limit) } rfl rfl rfl rfl]
        rfl
    case fetch =>
      intro hc hk bytes halted
      have reads : ¬ (x.kind = .singleWrite ∨ x.kind = .streamMove) := by simp [hk]
      have ok (u : State) : State.deliverOk (x.acked ld s.beatTimer) u = u.fetchDone x.runLen bytes := by
        have client : (x.acked ld s.beatTimer).client = .outbound := hc
        simp only [State.deliverOk, client, acked_readData ld _ reads]
        rfl
      have failure (u : State) (hu : u.outb = s.outb) (hs : u.stream = s.stream) (hr : u.hostReply = s.hostReply)
          (ht : u.stall = s.stall) (k : FaultKind) : State.deliverFailure x k u = halted u k := by
        have fails : State.deliverFailure x k u = u.fetchFailed k x.beatAddr := by
          simp only [State.deliverFailure, hc]
        rw [fails]
        simp only [State.fetchFailed, endHeldRead_eq, halted, ← hu, ← hs, ← hr, ← ht]
        rfl
      refine ⟨fun hl => ⟨fun hv => ?_, fun hv => ?_⟩, ?_, ?_⟩
      · have void : s.landed.fetchDone x.runLen bytes = s.landed := if_pos hv
        rw [lack hl, ok, void]
        rfl
      · have applied : s.landed.fetchDone x.runLen bytes =
            (s.landed.setOutb (s.landed.outb.fetched bytes x.runLen)).judgeRead := if_neg (by simp [State.landed, hv])
        rw [lack hl, ok, applied]
        rfl
      · rw [lerr, failure s.landed rfl rfl rfl rfl]
        rfl
      · rw [expiry, failure { s.landed with now := max s.now (x.beatTimer.start + x.beatTimer.limit) } rfl rfl rfl rfl]
        rfl

end Sys2Proof.Machine

/-! SUPPORT and PROOFS. The Stall Monitor's expiry by holder (R41, R58, R86, R110, R120). -/

namespace Sys2Proof.Machine

/-- The record a host waits on is the newest with its number (R28), and its withdrawal keeps the others' order (R41). -/
theorem waited_of_newest {s : State} {q : BitVec 8} {r : WriteRecord} {older newer : List WriteRecord}
    (h : s.pwq.records = older ++ r :: newer) (hr : r.seq = q) (hn : ∀ n ∈ newer, n.seq ≠ q) :
    s.pwq.waited q = some r ∧ s.withdraw q = s.setRecords (older ++ newer) := by
  have reversed : s.pwq.records.reverse = newer.reverse ++ r :: older.reverse := by simp [h]
  have kept : ∀ b ∈ newer.reverse, ¬ decide (b.seq = q) = true := fun b hb => by
    simpa using hn b (List.mem_reverse.1 hb)
  refine ⟨?_, ?_⟩
  · have none : newer.reverse.find? (fun b => decide (b.seq = q)) = none := List.find?_eq_none.2 kept
    rw [Pwq.waited, reversed, List.find?_append, none, Option.none_or, List.find?_cons_of_pos (by simpa using hr)]
  · unfold State.withdraw State.setRecords
    rw [reversed, List.eraseP_append_right _ kept, List.eraseP_cons_of_pos (by simpa using hr)]
    simp

/-- Settles O48: by the holder and what it holds. -/
theorem stallExpiryByHolder : Obligations.StallExpiryByHolder := by
  intro s hp
  have expiry : exec .stallExpiry s = .next s.expireStall := congrArg _ (unlessPon_taken hp _)
  refine ⟨fun hn => ?_, ?_⟩
  · rw [expiry]
    simp only [State.expireStall, hn]
  intro h timer ht freed stalled ends
  have ended {f : FaultRecord} {t : State} (he : s.expireStall = (t.fault f).poll) : ends f t :=
    expiry.trans (congrArg _ he)
  let late : State := s.reach timer
  refine ⟨fun w hh hw => ended ?_, ?_, fun r hh hr => ended ?_, fun hh hb => ended ?_, fun hh hb => ended ?_⟩
  · have held : late.pwq.held = .slotWait w := hw
    simp only [State.expireStall, ht, hh, State.stallWrite, held, late]
    rfl
  · intro q older r newer hh hw hrec hseq hnew f
    have held : late.pwq.held = .recordWait q := hw
    obtain ⟨waited, withdrawn⟩ := waited_of_newest (s := (late.setHeld .none).releaseHost .written) hrec hseq hnew
    have waited : late.pwq.waited q = some r := waited
    have record : recordWaitFault r = f := by
      simp only [recordWaitFault, hseq]
      rfl
    refine ⟨fun hf => ended ?_, fun hf => ended ?_⟩
    · have stalls : late.stallWrite = ((late.setHeld .none).releaseHost .written).fault (recordWaitFault r) := by
        simp only [State.stallWrite, held, waited, hf, if_true]
      simp only [State.expireStall, ht, hh]
      exact congrArg State.poll (stalls.trans (congrArg (fun g => State.fault g _) record))
    · have stalls : late.stallWrite = ((((late.setHeld .none).releaseHost .written).withdraw q).afterLeave
          r.entry).fault (recordWaitFault r) := by
        simp only [State.stallWrite, held, waited, hf, Bool.false_eq_true, if_false]
      rw [withdrawn] at stalls
      simp only [State.expireStall, ht, hh]
      exact congrArg State.poll (stalls.trans (congrArg (fun g => State.fault g _) record))
  · have record : late.slot.record = some r := hr
    have stalls : late.stallRead = (if r.phase = .inFlight
        then late.fillRead.setOrphan (some { entry := r.entry, kind := r.kind, line := r.line })
        else late.fillRead).fault (readFault r) := by
      simp only [State.stallRead, record]
    simp only [State.expireStall, ht, hh]
    refine (congrArg State.poll stalls).trans ?_
    simp only [readFault, origin_eq, faultAddr_eq]
    by_cases hf : r.phase = .inFlight
    · simp only [if_pos hf]
      rfl
    · simp only [if_neg hf]
      rfl
  · obtain ⟨bytes, held⟩ := Option.isSome_iff_exists.1 hb
    have held : late.inb.held = some bytes := held
    simp only [State.expireStall, ht, hh, State.stallStreamIn, held, late]
    rfl
  · obtain ⟨st, held⟩ := Option.isSome_iff_exists.1 hb
    have held : late.outb.held = some st := held
    simp only [State.expireStall, ht, hh, State.stallStreamOut, held, late]
    rfl

end Sys2Proof.Machine

/-! SUPPORT and PROOFS. Register window writes: the rows they spell, command registers with NONE and with unnamed
values, and registers that ignore writes (R175, R176, R178, R180). -/

namespace Sys2Proof.Machine

/-! ### The rows of register writes -/

/-- A row of a host window write is the write's effect as a host access. -/
def spellsHost (i : Instr) (f : State → State) : Prop := ∀ s, exec i s = .next (hostWrite f s)

/-- A row of a local window write is the write's effect as a local access. -/
def spellsLocal (i : Instr) (f : State → State) : Prop := ∀ s, exec i s = .next (localWrite f s)

theorem spellsHost_congr {i : Instr} {f g : State → State} (hf : f = g) (hi : spellsHost i g) : spellsHost i f :=
  hf ▸ hi

theorem spellsLocal_congr {i : Instr} {f g : State → State} (hf : f = g) (hi : spellsLocal i g) : spellsLocal i f :=
  hf ▸ hi

theorem tableRow_host {c : BitVec 4} {i : Instr} (h : tableRow .host c = some i) :
    spellsHost i (State.tableCode .host c) := by
  unfold tableRow at h
  split at h <;> cases h <;> exact spellsHost_congr (by funext u; simp only [State.tableCode, *]) fun _ => rfl

theorem tableRow_loc {c : BitVec 4} {i : Instr} (h : tableRow .loc c = some i) :
    spellsLocal i (State.tableCode .loc c) := by
  unfold tableRow at h
  split at h <;> cases h <;> exact spellsLocal_congr (by funext u; simp only [State.tableCode, *]) fun _ => rfl

theorem localStreamRow_spells {c : BitVec 4} {p : BitVec 17} {i : Instr} (h : localStreamRow c p = some i) :
    spellsLocal i (State.localStreamCode c p) := by
  unfold localStreamRow at h
  split at h <;> cases h <;> exact spellsLocal_congr (by funext u; simp only [State.localStreamCode, *]) fun _ => rfl

theorem powerRow_spells {c : BitVec 4} {onAccess onAttention : Bool} {i : Instr}
    (h : powerRow c onAccess onAttention = some i) : spellsLocal i (State.powerCode c onAccess onAttention) := by
  unfold powerRow at h
  split at h <;> cases h <;> exact spellsLocal_congr (by funext u; simp only [State.powerCode, *]) fun _ => rfl

/-- A row that one command value names. -/
theorem command_row {c v : BitVec 4} {i j : Instr} (h : (if c = v then some j else none) = some i) : c = v ∧ j = i :=
  (Option.ite_none_right_eq_some.mp h).imp_right Option.some.inj

theorem hostRow_spells {reg : BitVec 6} {hd : Half} {i : Instr} (h : hostRow reg hd = some i) :
    spellsHost i (State.hostRegister reg hd) := by
  unfold hostRow at h
  dsimp only at h
  split at h <;> rename_i offset
  case h_10 | h_11 =>
    obtain ⟨hc, rfl⟩ := command_row h
    exact spellsHost_congr (by funext u; simp only [State.hostRegister, offset, hc]; rfl) fun _ => rfl
  case h_12 => exact spellsHost_congr (by funext u; simp only [State.hostRegister, offset]) (tableRow_host h)
  case h_14 =>
    split at h
    next hc =>
      cases h
      exact spellsHost_congr (by funext u; simp only [State.hostRegister, offset, hc]; rfl) fun _ => rfl
    next =>
      obtain ⟨hc, rfl⟩ := command_row h
      exact spellsHost_congr (by funext u; simp only [State.hostRegister, offset, hc]; rfl) fun _ => rfl
  all_goals cases h
  all_goals exact spellsHost_congr (by funext u; simp only [State.hostRegister, offset]) fun _ => rfl

theorem localRow_spells {reg : BitVec 6} {ld : Word} {i : Instr} (h : localRow reg ld = some i) :
    spellsLocal i (State.localRegister reg ld) := by
  unfold localRow at h
  dsimp only at h
  split at h <;> rename_i offset
  case h_1 => exact spellsLocal_congr (by funext u; simp only [State.localRegister, offset]) (powerRow_spells h)
  case h_8 => exact spellsLocal_congr (by funext u; simp only [State.localRegister, offset]) (tableRow_loc h)
  case h_19 => exact spellsLocal_congr (by funext u; simp only [State.localRegister, offset]) (localStreamRow_spells h)
  case h_2 | h_9 =>
    obtain ⟨hc, rfl⟩ := command_row h
    exact spellsLocal_congr (by funext u; simp only [State.localRegister, offset, hc]; rfl) fun _ => rfl
  case h_20 | h_22 =>
    obtain ⟨hb, hi⟩ := Option.ite_none_right_eq_some.mp h
    cases hi
    exact spellsLocal_congr (by funext u; simp only [State.localRegister, offset, if_pos hb]) fun _ => rfl
  case h_4 | h_7 =>
    split at h
    next hc =>
      cases h
      exact spellsLocal_congr (by funext u; simp only [State.localRegister, offset, hc]; rfl) fun _ => rfl
    next =>
      obtain ⟨hc, rfl⟩ := command_row h
      exact spellsLocal_congr (by funext u; simp only [State.localRegister, offset, hc]; rfl) fun _ => rfl
  all_goals cases h
  all_goals exact spellsLocal_congr (by funext u; simp only [State.localRegister, offset]) fun _ => rfl

/-- A window write does what its row does, in every state. -/
theorem exec_registerWrite_of_row {a : RegWrite} {i : Instr} (h : a.row = some i) (s : State) :
    exec (.registerWrite a) s = exec i s := by
  cases a with
  | host reg st hd =>
    simp only [RegWrite.row] at h
    split at h
    next stream =>
      cases h
      exact congrArg Host.Outcome.next (congrArg (hostWrite · s) (funext fun _ => if_pos stream))
    next notStream =>
      obtain ⟨both, row⟩ := Option.ite_none_right_eq_some.mp h
      have decoded : State.hostWindowWrite reg st hd = State.hostRegister reg hd :=
        funext fun _ => (if_neg notStream).trans (if_pos both)
      exact (hostRow_spells row s |>.trans (congrArg Host.Outcome.next (congrArg (hostWrite · s) decoded.symm))).symm
  | loc reg lbe ld =>
    obtain ⟨lanes, row⟩ := Option.ite_none_right_eq_some.mp h
    have decoded : State.localWindowWrite reg lbe ld = State.localRegister reg ld := funext fun _ => if_pos lanes
    exact (localRow_spells row s |>.trans (congrArg Host.Outcome.next (congrArg (localWrite · s) decoded.symm))).symm

/-! ### Command registers with NONE and with an unnamed value (R178) -/

section

variable {c : BitVec 4} (s : State)

theorem tableCode_none (w : Window) (h : c.toNat = 0) : s.tableCode w c = s := by simp only [State.tableCode, h]

theorem tableCode_unnamed (w : Window) (h : 6 ≤ c.toNat) :
    s.tableCode w c = s.tableResult w (if s.power.resetBusy then .busy else .badField) := by
  unfold State.tableCode
  split
  case h_7 => rfl
  all_goals omega

theorem faultCode_none (w : Window) (h : c.toNat = 0) : s.faultCode w c = s := by simp only [State.faultCode, h]

theorem faultCode_unnamed_host (h : 2 ≤ c.toNat) : s.faultCode .host c = s.popResult .host .badField := by
  unfold State.faultCode
  split
  case h_4 => rfl
  case h_3 => contradiction
  all_goals omega

theorem faultCode_unnamed_loc (h : 3 ≤ c.toNat) : s.faultCode .loc c = s.popResult .loc .badField := by
  unfold State.faultCode
  split
  case h_4 => rfl
  all_goals omega

theorem noteCode_none (h : c.toNat = 0) : s.noteCode c = s := by simp only [State.noteCode, h]

theorem noteCode_unnamed (h : 2 ≤ c.toNat) : s.noteCode c = s.noteResult .badField := by
  unfold State.noteCode
  split
  case h_3 => rfl
  all_goals omega

theorem hostStreamCode_none (h : c.toNat = 0) : s.hostStreamCode c = s := by simp only [State.hostStreamCode, h]

theorem hostStreamCode_unnamed (h : 3 ≤ c.toNat) : s.hostStreamCode c = s.hostStreamResult .badField := by
  unfold State.hostStreamCode
  split
  case h_4 => rfl
  all_goals omega

theorem localStreamCode_none (p : BitVec 17) (h : c.toNat = 0) : s.localStreamCode c p = s := by
  simp only [State.localStreamCode, h]

theorem localStreamCode_unnamed (p : BitVec 17) (h : 9 ≤ c.toNat) :
    s.localStreamCode c p = s.localStreamResult (if s.power.resetBusy then .busy else .badField) := by
  unfold State.localStreamCode
  split
  case h_10 =>
    unfold State.streamCommand
    split <;> rfl
  all_goals omega

theorem answerCode_none (i : BitVec 3) (reason : BitVec 4) (serial : BitVec 8) (h : c.toNat = 0) :
    s.answerCode c i reason serial = s := by simp only [State.answerCode, h]

theorem answerCode_unnamed (i : BitVec 3) (reason : BitVec 4) (serial : BitVec 8) (h : 3 ≤ c.toNat) :
    s.answerCode c i reason serial = s.answerResult .badField := by
  unfold State.answerCode
  split
  case h_4 => rfl
  all_goals omega

theorem powerCode_none (onAccess onAttention : Bool) (h : c.toNat = 0) :
    s.powerCode c onAccess onAttention = s.storeWake onAccess onAttention := by simp only [State.powerCode, h]

theorem powerCode_unnamed (onAccess onAttention : Bool) (h : 5 ≤ c.toNat) :
    s.powerCode c onAccess onAttention = (s.storeWake onAccess onAttention).powerResult .badField := by
  unfold State.powerCode
  dsimp only
  split
  case h_6 => rfl
  all_goals omega

theorem resetCode_none (h : c.toNat = 0) : s.resetCode c = s := by simp only [State.resetCode, h]

theorem resetCode_unnamed (h : 2 ≤ c.toNat) : s.resetCode c = s.resetResult .badField := by
  unfold State.resetCode
  split
  case h_3 => rfl
  all_goals omega

theorem invalidateCode_none (h : c.toNat = 0) : s.invalidateCode c = s := by simp only [State.invalidateCode, h]

theorem invalidateCode_unnamed (h : 2 ≤ c.toNat) : s.invalidateCode c = s.lineResult .badField := by
  unfold State.invalidateCode
  split
  case h_3 => rfl
  all_goals omega

end

/-! ### The registers that a window's writes reach -/

/-- The host registers that take a write: command registers, settings, and the other registers that store or clear. -/
def hostWritable : List (BitVec 6) :=
  [0x12, 0x1D, 0x24, 0x36] ++ [0x04, 0x05, 0x06, 0x07, 0x08, 0x09, 0x0A, 0x0B] ++
    [0x10, 0x20, 0x21, 0x22, 0x23, 0x25, 0x30, 0x31, 0x34, 0x35]

/-- The local registers that take a write. -/
def localWritable : List (BitVec 6) :=
  [0x03, 0x08, 0x0D, 0x14, 0x19, 0x27] ++
    [0x09, 0x0B, 0x12, 0x13, 0x15, 0x1A, 0x1B, 0x1C, 0x1D, 0x1E, 0x1F, 0x20, 0x21, 0x23, 0x24] ++
    [0x02, 0x04, 0x0A, 0x28, 0x2C, 0x2D]

/-- A register whose offset is the offset of one of a list is in the list. -/
theorem mem_of_offset {k n : Nat} {l : List (BitVec 6)} {reg : BitVec 6} (hk : 0 < k) (offset : k * reg.toNat = n)
    (h : n ∈ l.map (k * ·.toNat)) : reg ∈ l := by
  obtain ⟨r, hr, same⟩ := List.mem_map.mp h
  have : r.toNat = reg.toNat := Nat.eq_of_mul_eq_mul_left hk (same.trans offset.symm)
  exact BitVec.eq_of_toNat_eq this ▸ hr

theorem hostWindowWrite_ignored {reg : BitVec 6} (h : reg ∉ hostWritable) (st : Strobes) (hd : Half) (s : State) :
    s.hostWindowWrite reg st hd = s := by
  have notStream : 2 * reg.toNat ≠ 0x60 := fun offset => h (mem_of_offset (by decide) offset (by decide))
  have ignored : s.hostRegister reg hd = s := by
    unfold State.hostRegister
    split <;> rename_i offset
    case h_22 => rfl
    all_goals exact absurd (mem_of_offset (by decide) offset (by decide)) h
  unfold State.hostWindowWrite
  rw [if_neg notStream, ignored, ite_self]

theorem localRegister_ignored {reg : BitVec 6} (h : reg ∉ localWritable) (ld : Word) (s : State) :
    s.localRegister reg ld = s := by
  unfold State.localRegister
  split <;> rename_i offset
  case h_28 => rfl
  all_goals exact absurd (mem_of_offset (by decide) offset (by decide)) h

/-- A halfword write of a host register that is taken: its effect beside the answer (R175). -/
theorem exec_hostHalfword {s : State} (h : s.hostCanAct) (reg : BitVec 6) (hd : Half) :
    exec (.registerWrite (.host reg { hlb := true, hub := true } hd)) s =
      .next ((s.reply .written).hostWindowWrite reg { hlb := true, hub := true } hd) :=
  (exec_hostWindowWrite ..).trans (congrArg Host.Outcome.next (hostWrite_taken h _))

/-- A full-word write of a local register that is taken (R176). -/
theorem exec_localWord {s : State} (h : s.localCanAct) (reg : BitVec 6) (ld : Word) :
    exec (.registerWrite (.loc reg 0xF#4 ld)) s = .next (s.localRegister reg ld) :=
  (exec_localWindowWrite ..).trans (congrArg Host.Outcome.next (localWrite_taken h _))

/-- The command field of a register: bits 3:0 (R178). -/
theorem toNat_code {w : Nat} (d : BitVec w) : (d.extractLsb' 0 4).toNat = d.toNat % 16 := by
  simp [BitVec.extractLsb'_toNat]

/-- Settles O49: each row by the decode that names it, and each other write by its command field or its offset. -/
theorem registerWriteSpellsItsRow : Obligations.RegisterWriteSpellsItsRow := by
  unfold Obligations.RegisterWriteSpellsItsRow
  refine ⟨fun a i s h => exec_registerWrite_of_row h s, ?host, ?loc⟩
  case host =>
    intro hd s can
    have code := toNat_code hd
    have taken {reg : BitVec 6} {t : State}
        (h : (s.reply .written).hostWindowWrite reg { hlb := true, hub := true } hd = t) :
        exec (.registerWrite (.host reg { hlb := true, hub := true } hd)) s = .next t :=
      (exec_hostHalfword can reg hd).trans (congrArg _ h)
    refine ⟨fun idle => ?_, fun unnamed => ⟨?_, ?_⟩, fun unnamed => ?_, fun unnamed => ?_, fun reg other => ?_⟩
    · rw [← code] at idle
      simp only [List.forall_mem_cons, List.not_mem_nil, false_implies, implies_true, and_true]
      exact ⟨taken (faultCode_none _ _ idle), taken (noteCode_none _ idle), taken (tableCode_none _ _ idle),
        taken (hostStreamCode_none _ idle)⟩
    · exact taken (faultCode_unnamed_host _ (code ▸ unnamed))
    · exact taken (noteCode_unnamed _ (code ▸ unnamed))
    · exact taken (hostStreamCode_unnamed _ (code ▸ unnamed))
    · exact taken (tableCode_unnamed _ _ (code ▸ unnamed))
    · exact taken (hostWindowWrite_ignored other _ _ _)
  case loc =>
    intro ld s can
    have code := toNat_code ld
    have taken {reg : BitVec 6} {t : State} (h : s.localRegister reg ld = t) :
        exec (.registerWrite (.loc reg 0xF#4 ld)) s = .next t :=
      (exec_localWord can reg ld).trans (congrArg _ h)
    refine ⟨fun idle => ⟨?_, ?_⟩, fun unnamed => ?_, fun unnamed => ⟨?_, ?_⟩, fun unnamed => ⟨?_, ?_⟩,
      fun unnamed => ?_, fun unnamed => ?_, fun low => ⟨?_, ?_⟩, fun reg other => ?_⟩
    · exact taken (powerCode_none _ _ _ (code.trans idle))
    · rw [← code] at idle
      simp only [List.forall_mem_cons, List.not_mem_nil, false_implies, implies_true, and_true]
      exact ⟨taken (resetCode_none _ idle), taken (answerCode_none _ _ _ _ idle), taken (faultCode_none _ _ idle),
        taken (tableCode_none _ _ idle), taken (invalidateCode_none _ idle), taken (localStreamCode_none _ _ idle)⟩
    · exact taken (powerCode_unnamed _ _ _ (code ▸ unnamed))
    · exact taken (resetCode_unnamed _ (code ▸ unnamed))
    · exact taken (invalidateCode_unnamed _ (code ▸ unnamed))
    · exact taken (answerCode_unnamed _ _ _ _ (code ▸ unnamed))
    · exact taken (faultCode_unnamed_loc _ (code ▸ unnamed))
    · exact taken (tableCode_unnamed _ _ (code ▸ unnamed))
    · exact taken (localStreamCode_unnamed _ _ (code ▸ unnamed))
    · exact taken (if_neg (Bool.eq_false_iff.mp low))
    · exact taken (if_neg (Bool.eq_false_iff.mp low))
    · exact taken (localRegister_ignored other _ _)

end Sys2Proof.Machine

/-! SUPPORT. Register layouts: a register built of placed fields is the concatenation of its fields (section 10.5), and
what each layout of both windows comes to. -/

namespace Sys2Proof.Machine

/-! ### Fields and concatenations -/

section

variable {m n : Nat}

theorem getLsbD_field (p : Nat) (v : BitVec n) (k : Nat) :
    (field p v).getLsbD k = (decide (k < 32) && decide (p ≤ k) && v.getLsbD (k - p)) := by
  unfold field
  rw [BitVec.getLsbD_shiftLeft, BitVec.getLsbD_setWidth]
  grind

/-- A placed concatenation is its parts placed side by side. -/
theorem field_append (p : Nat) (x : BitVec m) (y : BitVec n) :
    field p (x ++ y) = field p y ||| field (p + n) x := by
  refine BitVec.eq_of_getLsbD_eq fun k hk => ?_
  simp only [BitVec.getLsbD_or, getLsbD_field, BitVec.getLsbD_append, hk]
  by_cases low : k - p < n
  · have : decide (p + n ≤ k) = false ∨ n = 0 := by simp; omega
    grind
  · have : y.getLsbD (k - p) = false := BitVec.getLsbD_of_ge _ _ (Nat.le_of_not_lt low)
    grind

@[simp] theorem field_zero (p n : Nat) : field p 0#n = 0#32 := by simp [field]

theorem field_zero_word (w : Word) : field 0 w = w := by simp [field]

@[simp] theorem bit_true : bit true = 1#1 := rfl

/-- A count that its field holds is that field. -/
theorem count_eq_field {c : Nat} (p w : Nat) (h : c < 2 ^ w) (hw : w ≤ 32) :
    count p c = field p (BitVec.ofNat w c) := by
  have wide : c < 2 ^ 32 := h.trans_le (Nat.pow_le_pow_right (by decide) hw)
  have : BitVec.ofNat 32 c = (BitVec.ofNat w c).setWidth 32 := by
    apply BitVec.eq_of_toNat_eq
    rw [BitVec.toNat_setWidth, BitVec.toNat_ofNat, BitVec.toNat_ofNat, Nat.mod_eq_of_lt h]
  rw [count, field, this]

/-- A register is a concatenation when its placed fields are. -/
theorem eq_of_fields {w v : Word} (h : w = field 0 v) : w = v := h.trans (field_zero_word v)

theorem half_of_fields {w : Word} {v : Half} (h : w = field 0 v) : w.setWidth 16 = v := by
  rw [h, field, BitVec.shiftLeft_zero, BitVec.setWidth_setWidth_of_le _ (by decide), BitVec.setWidth_eq]

theorem setWidth_eq_zero_append (v : BitVec n) (m : Nat) : v.setWidth (m + n) = 0#m ++ v := by
  refine BitVec.eq_of_getLsbD_eq fun k hk => ?_
  simp only [BitVec.getLsbD_setWidth, BitVec.getLsbD_append, hk]
  by_cases low : k < n
  · simp [low]
  · simp [low, BitVec.getLsbD_of_ge _ _ (Nat.le_of_not_lt low)]

/-- What lies above the low part of a concatenation. -/
theorem extractLsb'_append_above {a b : Nat} (x : BitVec a) (y : BitVec b) (k n : Nat) :
    (x ++ y).extractLsb' (b + k) n = x.extractLsb' k n := by
  refine BitVec.eq_of_getLsbD_eq fun i hi => ?_
  simp only [BitVec.getLsbD_extractLsb', BitVec.getLsbD_append, hi]
  rw [if_neg (by omega), show b + k + i - b = k + i by omega]

end

@[simp] theorem flag_eq_field (p : Nat) (b : Bool) : flag p b = field p (bit b) := rfl

@[simp] theorem resultWord_eq_field (r : Result) : resultWord r = field 8 r.code := rfl

theorem idx8_val (b : BitVec 3) : BitVec.ofNat 3 (idx8 b).val = b := by simp [idx8]

/-! ### Registers that stand in both windows -/

/-- The MODE fields of a staging record or a View, below a top bit and beside the field of bits 14:12 (Table 10-3). -/
def modeFields (top : BitVec 1) (high : BitVec 3) (hold : BitVec 4) (slide swapped combine streaming strict : Bool)
    (access : BitVec 2) : Half :=
  top ++ high ++ hold ++ 0#1 ++ bit slide ++ bit swapped ++ bit combine ++ bit streaming ++ bit strict ++ access

/-- A staging record's MODE fields. -/
def Staging.modeWith (top : BitVec 1) (g : Staging) : Half :=
  modeFields top (BitVec.ofNat 3 g.target.val) g.hold g.slide g.swapped g.combine g.streaming g.strict g.access

/-- A View's MODE fields of an entry that is not EMPTY (R4). -/
def LiveEntry.mode (editable : Bool) (l : LiveEntry) : Half :=
  modeFields (bit editable) (0#1 ++ l.phase.code) l.ap.hold l.ap.slide l.ap.swapped l.ap.combine l.ap.streaming
    l.ap.strict l.ap.access.code

/-- The twelve INFO bits of a fault record that the host sees whole (Table 10-4). -/
def FaultRecord.infoBits (f : FaultRecord) : BitVec 12 :=
  bit (f.inFlight.getD false) ++ BitVec.ofNat 3 (f.entry.getD 0).val ++ f.direction.code ++ f.origin.code ++ 0#1 ++
    f.kind.code

theorem resultWord_plain (r : Result) : resultWord r = 0#16 ++ 0#3 ++ r.code ++ 0#8 :=
  eq_of_fields (by simp only [field_append]; simp)

theorem resultWord_half (r : Result) : (resultWord r).setWidth 16 = 0#3 ++ r.code ++ 0#8 :=
  half_of_fields (by simp only [field_append]; simp)

theorem status_layout (g : Negotiated) : g.status.setWidth 16 = g.reason ++ 0#1 ++ g.outcome.code ++ g.serial :=
  half_of_fields (by simp only [Negotiated.status, field_append]; simp [BitVec.or_assoc])

theorem wordA_fields (g : Staging) :
    g.wordA = field 0 g.page ||| field 12 g.size ||| field 16 (g.modeWith (bit g.editable)) := by
  simp only [Staging.wordA, packA, Staging.modeWith, modeFields, field_append]
  simp [BitVec.or_assoc]

theorem wordA_layout (g : Staging) : g.wordA = g.modeWith (bit g.editable) ++ g.size ++ g.page :=
  eq_of_fields (by simp only [wordA_fields, field_append]; simp [BitVec.or_assoc])

theorem wordA_halves (g : Staging) : g.wordA = g.modeWith (bit g.editable) ++ (g.size ++ g.page) :=
  eq_of_fields (by simp only [wordA_fields, field_append])

theorem viewA_fields {e : Entry} {l : LiveEntry} (h : e.live = some l) :
    e.viewA = field 0 l.ap.page ||| field 12 l.ap.size ||| field 16 (l.mode e.editable) := by
  simp only [Entry.viewA, h, Option.elim_some, packA, LiveEntry.mode, modeFields, field_append]
  simp [BitVec.or_assoc]

theorem viewA_layout {e : Entry} {l : LiveEntry} (h : e.live = some l) :
    e.viewA = l.mode e.editable ++ l.ap.size ++ l.ap.page :=
  eq_of_fields (by simp only [viewA_fields h, field_append]; simp [BitVec.or_assoc])

theorem viewA_halves {e : Entry} {l : LiveEntry} (h : e.live = some l) :
    e.viewA = l.mode e.editable ++ (l.ap.size ++ l.ap.page) :=
  eq_of_fields (by simp only [viewA_fields h, field_append])

theorem viewA_empty {e : Entry} (h : e.live = none) : e.viewA = bit e.editable ++ 0#31 :=
  eq_of_fields (by simp only [Entry.viewA, h, field_append]; simp)

theorem viewA_empty_halves {e : Entry} (h : e.live = none) : e.viewA = (bit e.editable ++ 0#15) ++ 0#16 :=
  eq_of_fields (by simp only [Entry.viewA, h, field_append]; simp)

theorem viewBase_empty {e : Entry} (h : e.live = none) : e.viewBase = 0#32 := by simp [Entry.viewBase, h]

theorem viewCounts_empty {e : Entry} (h : e.live = none) : e.viewCounts = 0#32 := by simp [Entry.viewCounts, h]

theorem viewBase_live {e : Entry} {l : LiveEntry} (h : e.live = some l) : e.viewBase = l.ap.base ++ 0#12 := by
  simp only [Entry.viewBase, h, Option.elim_some, Aperture.localBase]

theorem viewCounts_layout {e : Entry} {l : LiveEntry} (h : e.live = some l) :
    e.viewCounts = 0#8 ++ l.refused ++ l.slideCount :=
  eq_of_fields (by simp only [Entry.viewCounts, h, field_append]; simp)

theorem field_base (b : BitVec 20) : field 12 b = b ++ 0#12 := eq_of_fields (by simp only [field_append]; simp)

theorem baseLow_append (b : BitVec 20) : baseLow (b ++ 0#12) = b.extractLsb' 0 16 :=
  extractLsb'_append_above b 0#12 0 16

theorem baseHigh_append (b : BitVec 20) : baseHigh (b ++ 0#12) = 0#12 ++ b.extractLsb' 16 4 :=
  (congrArg (BitVec.setWidth 16) (extractLsb'_append_above b 0#12 16 4)).trans (setWidth_eq_zero_append _ 12)

theorem pageOfA_append (high low : Half) : pageOfA (high ++ low) = low := BitVec.extractLsb'_append_eq_right

theorem modeOfA_append (high low : Half) : modeOfA (high ++ low) = high := BitVec.extractLsb'_append_eq_left

theorem info_fields (f : FaultRecord) :
    f.info = field 0 f.infoBits ||| field 16 (f.seq.getD 0) ||| field 24 (f.dropped.getD 0) := by
  simp only [FaultRecord.info, FaultRecord.infoBits, field_append]
  simp [BitVec.or_assoc]

theorem info_layout (f : FaultRecord) :
    f.info = 0#4 ++ f.dropped.getD 0 ++ f.seq.getD 0 ++ 0#4 ++ f.infoBits :=
  eq_of_fields (by simp only [info_fields, field_append]; simp [BitVec.or_assoc])

theorem info_halves (f : FaultRecord) :
    f.info = (0#4 ++ (f.dropped.getD 0 ++ f.seq.getD 0)) ++ (0#4 ++ f.infoBits) :=
  eq_of_fields (by simp only [info_fields, field_append]; simp [BitVec.or_assoc])

theorem info_low (f : FaultRecord) : (f.info.extractLsb' 0 12).setWidth 16 = 0#4 ++ f.infoBits := by
  have low : f.info = (0#4 ++ f.dropped.getD 0 ++ f.seq.getD 0 ++ 0#4) ++ f.infoBits := info_layout f
  rw [low]
  exact (congrArg (BitVec.setWidth 16) BitVec.extractLsb'_append_eq_right).trans (setWidth_eq_zero_append _ 4)

theorem setWidth_half {n : Nat} (v : BitVec n) : v.setWidth 16 = (field 0 v).setWidth 16 := by
  rw [field, BitVec.shiftLeft_zero, BitVec.setWidth_setWidth_of_le _ (by decide)]

theorem info_high (f : FaultRecord) :
    (f.info.extractLsb' 16 12).setWidth 16 = 0#4 ++ f.dropped.getD 0 ++ f.seq.getD 0 := by
  rw [info_halves, extractLsb'_append_above _ (0#4 ++ f.infoBits) 0 12]
  refine (congrArg (BitVec.setWidth 16) (BitVec.extractLsb'_append_eq_right (a := 0#4))).trans ?_
  rw [setWidth_half]
  exact half_of_fields (by simp only [field_append]; simp)

/-- Bits 14:0 of the MODE fields. -/
def modeBelow (high : BitVec 3) (hold : BitVec 4) (slide swapped combine streaming strict : Bool)
    (access : BitVec 2) : BitVec 15 :=
  high ++ hold ++ 0#1 ++ bit slide ++ bit swapped ++ bit combine ++ bit streaming ++ bit strict ++ access

theorem modeFields_eq_append (top : BitVec 1) (high : BitVec 3) (hold : BitVec 4)
    (slide swapped combine streaming strict : Bool) (access : BitVec 2) :
    modeFields top high hold slide swapped combine streaming strict access =
      top ++ modeBelow high hold slide swapped combine streaming strict access := by
  have same : field 0 (modeFields top high hold slide swapped combine streaming strict access) =
      field 0 (top ++ modeBelow high hold slide swapped combine streaming strict access) := by
    simp only [modeFields, modeBelow, field_append]
    simp [BitVec.or_assoc]
  exact (half_of_fields rfl).symm.trans (half_of_fields same)

theorem append_and_low {m n : Nat} (x : BitVec m) (y : BitVec n) :
    (x ++ y) &&& (0#m ++ BitVec.allOnes n) = 0#m ++ y := by
  refine BitVec.eq_of_getLsbD_eq fun k hk => ?_
  simp only [BitVec.getLsbD_and, BitVec.getLsbD_append]
  split
  next low => simp [low]
  next => simp

/-- The host sees bit 15 of its staging MODE register as 0 (Table 10-3). -/
theorem modeWith_masked (g : Staging) (top : BitVec 1) : g.modeWith top &&& 0x7FFF#16 = g.modeWith 0#1 := by
  have mask : 0x7FFF#16 = 0#1 ++ BitVec.allOnes 15 := by decide
  simp only [Staging.modeWith, modeFields_eq_append]
  rw [mask]
  exact append_and_low ..

/-! ### Host registers with a layout of their own (Tables 10-1, 10-4, 10-6, 10-7) -/

section

variable (s : State)

theorem hostWord_status : s.hostWord 0x02#6 = 0#7 ++ bit s.power.resetBusy ++ 0#5 ++ s.power.state.code :=
  half_of_fields (by simp only [field_append]; simp)

theorem hostWord_moduleReset : s.hostWord 0x04#6 = 0#15 ++ bit s.settings.moduleReset :=
  half_of_fields (by simp only [field_append]; simp)

theorem hostWord_powerLow : s.hostWord 0x05#6 = 0#15 ++ bit s.settings.powerLow :=
  half_of_fields (by simp only [field_append]; simp)

theorem hostWord_faultCount (h : s.faults.queue.length < 8) :
    s.hostWord 0x16#6 = s.faults.lost ++ 0#5 ++ BitVec.ofNat 3 s.faults.queue.length :=
  half_of_fields (by
    rw [count_eq_field 0 3 h (by decide)]
    simp only [field_append]
    simp)

theorem condNote_eq : s.condNote = decide (s.events.notes ≠ []) := by
  unfold State.condNote
  cases s.events.notes <;> rfl

theorem hostWord_noteStatus (h : s.events.notes.length < 8) :
    s.hostWord 0x1C#6 =
      0#5 ++ BitVec.ofNat 3 s.events.notes.length ++ 0#7 ++ bit (decide (s.events.notes ≠ [])) :=
  half_of_fields (by
    rw [count_eq_field 8 3 h (by decide), condNote_eq]
    simp only [field_append]
    simp)

theorem hostWord_hostView : s.hostWord 0x25#6 = 0#13 ++ BitVec.ofNat 3 s.table.hostView.val :=
  half_of_fields (by
    rw [count_eq_field 0 3 s.table.hostView.isLt (by decide)]
    simp only [field_append]
    simp)

theorem outbound_atEnd_eq (c : Outbound) : c.atEnd = decide (c.fifo = [] ∧ c.marks.head? = some c.consume) := by
  unfold Outbound.atEnd
  rcases c.marks with _ | ⟨m, rest⟩
  · simp
  · cases c.fifo <;> simp [eq_comm]

theorem hostWord_streamStatus :
    s.hostWord 0x31#6 = 0#5 ++ bit s.stream.emptyRead ++ bit s.stream.dropped ++ bit s.stream.refused ++ 0#2 ++
      bit s.inb.damaged ++ bit (decide (s.outb.fifo = [] ∧ s.outb.marks.head? = some s.outb.consume)) ++
      s.outb.state.code ++ s.inb.state.code :=
  half_of_fields (by
    rw [State.hostStreamStatus, outbound_atEnd_eq]
    simp only [field_append]
    simp [BitVec.or_assoc])

/-- The room that the host is shown: none in a channel that takes no bytes (R122). -/
def shownRoom (c : Inbound) : Nat := if c.state = .running ∨ c.state = .flushing then 32 - c.fifo.length else 0

theorem freeRoom_eq (c : Inbound) : c.freeRoom = shownRoom c := by
  unfold Inbound.freeRoom shownRoom
  cases c.state <;> rfl

theorem shownRoom_lt (c : Inbound) : shownRoom c < 64 := by
  unfold shownRoom
  split <;> omega

theorem hostWord_levels (h : s.outb.fifo.length < 64) :
    s.hostWord 0x32#6 = 0#2 ++ BitVec.ofNat 6 s.outb.fifo.length ++ 0#2 ++ BitVec.ofNat 6 (shownRoom s.inb) :=
  half_of_fields (by
    rw [freeRoom_eq, count_eq_field 0 6 (shownRoom_lt _) (by decide), count_eq_field 8 6 h (by decide)]
    simp only [field_append]
    simp)

theorem hostWord_messageLength : s.hostWord 0x33#6 = BitVec.ofNat 16 s.inb.msgLen := by
  have unshifted : count 0 s.inb.msgLen = BitVec.ofNat 32 s.inb.msgLen := BitVec.shiftLeft_zero _
  exact (congrArg (BitVec.setWidth 16) unshifted).trans (BitVec.setWidth_ofNat_of_le (by decide) _)

end

theorem hostWord_unused (s : State) {reg : BitVec 6}
    (h : reg ∈ [0x03#6, 0x1E#6, 0x1F#6] ∨ (0x2C ≤ reg.toNat ∧ reg.toNat < 0x30) ∨ 0x37 ≤ reg.toNat) :
    s.hostWord reg = 0#16 := by
  have unused :
      reg.toNat = 3 ∨ reg.toNat = 30 ∨ reg.toNat = 31 ∨ (44 ≤ reg.toNat ∧ reg.toNat < 48) ∨ 55 ≤ reg.toNat := by
    simpa [← BitVec.toNat_inj, or_assoc] using h
  unfold State.hostWord
  split
  case h_48 => rfl
  all_goals omega

/-- While there is no fault record every register of the head reads 0 (R180). -/
theorem noFaultHead {s : State} (h : s.faults.queue = []) :
    s.faultInfo = 0#32 ∧ s.faultPresence = 0#7 ∧ s.faultHostAddr = 0#32 ∧ s.faultLocalAddr = 0#32 := by
  simp [State.faultInfo, State.faultPresence, State.faultHostAddr, State.faultLocalAddr, h]

theorem faultHead {s : State} {f : FaultRecord} {rest : List FaultRecord} (h : s.faults.queue = f :: rest) :
    s.faultInfo = f.info ∧ s.faultPresence = f.presence ∧ s.faultHostAddr = (f.hostAddr.getD 0).setWidth 32 ∧
      s.faultLocalAddr = f.localAddr.getD 0 := by
  simp [State.faultInfo, State.faultPresence, State.faultHostAddr, State.faultLocalAddr, h]

theorem hostAddress_high (a : HostAddr) : (a.setWidth 32).extractLsb' 16 16 = 0#8 ++ a.extractLsb' 16 8 := by
  refine BitVec.eq_of_getLsbD_eq fun k hk => ?_
  simp only [BitVec.getLsbD_extractLsb', BitVec.getLsbD_setWidth, BitVec.getLsbD_append, hk]
  split
  next low => simp [low, show 16 + k < 32 by omega]
  next high => simp [BitVec.getLsbD_of_ge a (16 + k) (by omega)]

end Sys2Proof.Machine

/-! SUPPORT. Local registers with a layout of their own (Tables 10-2, 10-3, 10-6, 10-7). -/

namespace Sys2Proof.Machine

section

variable (s : State)

theorem localWord_status : s.localWord 0x01#6 = 0#29 ++ s.power.state.code :=
  eq_of_fields (by
    show field 0 s.power.state.code = _
    simp only [field_append]
    simp)

theorem localWord_power :
    s.localWord 0x02#6 =
      (0#14 ++ bit s.power.wakeOnAttention ++ bit s.power.wakeOnAccess : Half) ++ 0#3 ++ s.power.result.code ++ 0#8 :=
  eq_of_fields (by
    show resultWord s.power.result ||| flag 16 s.power.wakeOnAccess ||| flag 17 s.power.wakeOnAttention = _
    simp only [field_append]
    simp [BitVec.or_assoc])

theorem localWord_reset :
    s.localWord 0x03#6 = (0#15 ++ bit s.power.resetBusy : Half) ++ 0#3 ++ s.power.resetResult.code ++ 0#8 :=
  eq_of_fields (by
    show resultWord s.power.resetResult ||| flag 16 s.power.resetBusy = _
    simp only [field_append]
    simp)

theorem localWord_notices :
    s.localWord 0x04#6 = 0#28 ++ bit s.settings.notices.s3 ++ bit s.settings.notices.s2 ++ bit s.settings.notices.s1 ++
      bit s.settings.notices.s0 :=
  eq_of_fields (by
    show flag 0 s.settings.notices.s0 ||| flag 1 s.settings.notices.s1 ||| flag 2 s.settings.notices.s2 |||
      flag 3 s.settings.notices.s3 = _
    simp only [field_append]
    simp [BitVec.or_assoc])

theorem localWord_direct :
    s.localWord 0x05#6 = 0#4 ++ s.settings.stallLimit ++ 0#3 ++ s.settings.eventEnable ++ 0#2 ++
      bit s.settings.powerLow ++ bit s.settings.moduleReset :=
  eq_of_fields (by
    show flag 0 s.settings.moduleReset ||| flag 1 s.settings.powerLow ||| field 4 s.settings.eventEnable |||
      field 16 s.settings.stallLimit = _
    simp only [field_append]
    simp [BitVec.or_assoc])

theorem localWord_accepted :
    s.localWord 0x06#6 = 0#25 ++ s.settings.s7.accepted.extractLsb' 0 1 ++ s.settings.s6.accepted.extractLsb' 0 1 ++
      s.settings.s5.accepted.extractLsb' 0 1 ++ 0#2 ++ s.settings.s4.accepted.extractLsb' 0 2 :=
  eq_of_fields (by
    show field 0 (s.settings.s4.accepted.setWidth 2) ||| field 4 (s.settings.s5.accepted.setWidth 1) |||
      field 5 (s.settings.s6.accepted.setWidth 1) ||| field 6 (s.settings.s7.accepted.setWidth 1) = _
    simp only [field_append, ← BitVec.setWidth_eq_extractLsb' (show 1 ≤ 4 by decide),
      ← BitVec.setWidth_eq_extractLsb' (show 2 ≤ 4 by decide)]
    simp [BitVec.or_assoc])

/-- The index of a negotiated setting (Table 10-6). -/
def settingIndex : NegSetting → BitVec 3
  | .attentionRoute => 4#3
  | .streamEnable => 5#3
  | .tableRights => 6#3
  | .linePermit => 7#3

theorem index_of_negOf {i : BitVec 3} {n : NegSetting} (h : negOf i = some n) : settingIndex n = i := by
  revert i n
  decide

theorem proposalHead_none (h : s.settings.proposals = []) : s.proposalHead = 0#32 := by
  simp [State.proposalHead, h]

theorem proposalHead_fields {p : Proposal} {rest : List Proposal} (h : s.settings.proposals = p :: rest) :
    s.proposalHead = field 0 (settingIndex p.setting) ||| field 8 p.serial ||| field 16 p.value |||
      count 24 s.settings.proposals.length ||| flag 31 true := by
  obtain ⟨setting, serial, value, timer⟩ := p
  simp only [State.proposalHead, h, List.head?_cons, Option.elim_some]
  cases setting <;> rfl

theorem proposalHead_some {p : Proposal} {rest : List Proposal} (h : s.settings.proposals = p :: rest)
    (room : s.settings.proposals.length < 8) {i : BitVec 3} (hi : negOf i = some p.setting) :
    s.proposalHead =
      1#1 ++ 0#4 ++ BitVec.ofNat 3 s.settings.proposals.length ++ 0#4 ++ p.value ++ p.serial ++ 0#5 ++ i :=
  eq_of_fields (by
    rw [proposalHead_fields s h, index_of_negOf hi, count_eq_field 24 3 room (by decide)]
    simp only [field_append]
    simp [BitVec.or_assoc])

theorem localWord_events :
    s.localWord 0x0A#6 = 0#9 ++ bit s.power.cause.isSome ++ s.power.cause.elim 0#2 WakeCause.code ++ 0#3 ++
      bit s.pins.latn ++ 0#4 ++ s.localEventWord :=
  eq_of_fields (by
    show s.localEventRegister = _
    simp only [State.localEventRegister, field_append]
    simp [BitVec.or_assoc])

theorem localWord_mask : s.localWord 0x0B#6 = 0#20 ++ s.events.mask :=
  eq_of_fields (by
    show field 0 s.events.mask = _
    simp only [field_append]
    simp)

theorem localWord_faultState (h : s.faults.queue.length < 8) :
    s.localWord 0x0F#6 =
      0#8 ++ s.faults.lost ++ 0#5 ++ BitVec.ofNat 3 s.faults.queue.length ++ 0#1 ++ s.faultPresence :=
  eq_of_fields (by
    show field 0 s.faultPresence ||| count 8 s.faults.queue.length |||
      field 16 s.faults.lost = _
    rw [count_eq_field 8 3 h (by decide)]
    simp only [field_append]
    simp [BitVec.or_assoc])

theorem localWord_view : s.localWord 0x15#6 = 0#29 ++ BitVec.ofNat 3 s.table.localView.val :=
  eq_of_fields (by
    refine (count_eq_field 0 3 s.table.localView.isLt (by decide)).trans ?_
    simp only [field_append]
    simp)

theorem localWord_inConfig :
    s.localWord 0x1F#6 = 0#12 ++ s.inb.hold ++ 0#7 ++ bit s.inb.drop ++ 0#4 ++ s.inb.size :=
  eq_of_fields (by
    show field 0 s.inb.size ||| flag 8 s.inb.drop ||| field 16 s.inb.hold = _
    simp only [field_append]
    simp [BitVec.or_assoc])

theorem localWord_outConfig : s.localWord 0x21#6 = 0#12 ++ s.outb.hold ++ 0#12 ++ s.outb.size :=
  eq_of_fields (by
    show field 0 s.outb.size ||| field 16 s.outb.hold = _
    simp only [field_append]
    simp)

theorem field_byte_base (b : BitVec 24) : field 8 b = b ++ 0#8 := eq_of_fields (by simp only [field_append]; simp)

theorem field_low_byte (v : BitVec 8) : field 0 v = 0#24 ++ v := eq_of_fields (by simp only [field_append]; simp)

theorem flag_low (b : Bool) : flag 0 b = 0#31 ++ bit b := eq_of_fields (by simp only [field_append]; simp)

/-- A ring index as it reads (R104). -/
theorem count_index {n : Nat} (h : n < 2 ^ 17) : count 0 n = 0#15 ++ BitVec.ofNat 17 n :=
  eq_of_fields (by
    rw [count_eq_field 0 17 h (by decide)]
    simp only [field_append]
    simp)

theorem localWord_streamState (marks : s.outb.marks.length < 16) (boundaries : s.inb.boundaries.length < 16) :
    s.localWord 0x28#6 = 0#4 ++ BitVec.ofNat 4 s.outb.marks.length ++ 0#4 ++
      BitVec.ofNat 4 s.inb.boundaries.length ++ 0#7 ++ bit s.stream.indexRefused ++ 0#2 ++ s.outb.state.code ++ 0#2 ++
      s.inb.state.code :=
  eq_of_fields (by
    show field 0 s.inb.state.code ||| field 4 s.outb.state.code |||
      flag 8 s.stream.indexRefused ||| count 16 s.inb.boundaries.length ||| count 24 s.outb.marks.length = _
    rw [count_eq_field 16 4 boundaries (by decide), count_eq_field 24 4 marks (by decide)]
    simp only [field_append]
    simp [BitVec.or_assoc])

theorem localWord_noBoundary (h : s.inb.boundaries = []) : s.localWord 0x29#6 = 0#32 ∧ s.localWord 0x2A#6 = 0#32 := by
  show s.boundaryHead = 0#32 ∧ s.inb.boundaries.head?.elim 0#32 (fun b => count 0 b.length) = 0#32
  simp [State.boundaryHead, h]

theorem localWord_boundary {b : Boundary} {rest : List Boundary} (h : s.inb.boundaries = b :: rest)
    (hend : b.endPos < 2 ^ 17) :
    s.localWord 0x29#6 =
      1#1 ++ 0#9 ++ bit b.visible ++ bit b.damaged ++ 0#3 ++ BitVec.ofNat 17 b.endPos :=
  eq_of_fields (by
    have head : s.inb.boundaries.head? = some b := congrArg List.head? h
    show s.boundaryHead = _
    simp only [State.boundaryHead, head, Option.elim_some, count_eq_field 0 17 hend (by decide), field_append]
    simp [BitVec.or_assoc])

theorem localWord_boundaryLength {b : Boundary} {rest : List Boundary} (h : s.inb.boundaries = b :: rest)
    (hlen : b.length < 2 ^ 16) : s.localWord 0x2A#6 = 0#16 ++ BitVec.ofNat 16 b.length :=
  eq_of_fields (by
    have head : s.inb.boundaries.head? = some b := congrArg List.head? h
    refine (congrArg (·.elim 0 fun b : Boundary => count 0 b.length) head).trans ?_
    simp only [Option.elim_some, count_eq_field 0 16 hlen (by decide), field_append]
    simp)

theorem localWord_noMark (h : s.outb.marks = []) : s.localWord 0x2B#6 = 0#32 := by
  show s.outb.marks.head?.elim 0#32 (fun m => count 0 m ||| flag 31 true) = 0#32
  simp [h]

theorem localWord_mark {m : Nat} {rest : List Nat} (h : s.outb.marks = m :: rest) (hm : m < 2 ^ 17) :
    s.localWord 0x2B#6 = 1#1 ++ 0#14 ++ BitVec.ofNat 17 m :=
  eq_of_fields (by
    refine (congrArg (·.elim 0 fun m : Nat => count 0 m ||| flag 31 true) (congrArg List.head? h)).trans ?_
    simp only [List.head?_cons, Option.elim_some, count_eq_field 0 17 hm (by decide), field_append]
    simp)

theorem localWord_noteState (h : s.events.notes.length < 8) :
    s.localWord 0x2D#6 = 0#23 ++ bit s.events.noteFull ++ 0#5 ++ BitVec.ofNat 3 s.events.notes.length :=
  eq_of_fields (by
    show count 0 s.events.notes.length ||| flag 8 s.events.noteFull = _
    rw [count_eq_field 0 3 h (by decide)]
    simp only [field_append]
    simp)

end

theorem localWord_unused (s : State) {reg : BitVec 6} (h : reg = 0x2C#6 ∨ 0x2E ≤ reg.toNat) :
    s.localWord reg = 0#32 := by
  have unused : reg.toNat = 44 ∨ 46 ≤ reg.toNat := by simpa [← BitVec.toNat_inj] using h
  unfold State.localWord
  split
  case h_46 => rfl
  all_goals omega

end Sys2Proof.Machine

/-! SUPPORT and PROOFS. Stored registers read back as written, and every register reads its fields (R3, R4, R128, R175,
R176, R179). -/

namespace Sys2Proof.Machine

/-! ### A stored field reads back the bits written -/

section

variable {w : Nat}

theorem setWidth_setWidth_low (n : Nat) (v : BitVec w) :
    (v.setWidth n).setWidth w = v &&& (BitVec.allOnes n).setWidth w := by
  refine BitVec.eq_of_getLsbD_eq fun k hk => ?_
  simp [hk, Bool.and_comm]

theorem field_extractLsb' (p n : Nat) (v : BitVec w) :
    field p (v.extractLsb' p n) = v.setWidth 32 &&& field p (BitVec.allOnes n) := by
  refine BitVec.eq_of_getLsbD_eq fun k hk => ?_
  simp only [BitVec.getLsbD_and, getLsbD_field, BitVec.getLsbD_extractLsb', BitVec.getLsbD_setWidth,
    BitVec.getLsbD_allOnes, hk]
  by_cases below : p ≤ k
  · simp [below, Bool.and_comm]
  · simp [below]

theorem bit_getLsbD (v : BitVec w) (p : Nat) : bit (v.getLsbD p) = v.extractLsb' p 1 := by
  refine BitVec.eq_of_getLsbD_eq fun k hk => ?_
  obtain rfl : k = 0 := by omega
  simp [bit]

theorem masked_half {v d mask : Half} (h : field 0 v = d.setWidth 32 &&& mask.setWidth 32) : v = d &&& mask := by
  have halves : (field 0 v).setWidth 16 = (d.setWidth 32 &&& mask.setWidth 32).setWidth 16 := congrArg _ h
  simpa [← setWidth_half] using halves

end

theorem clampTo_toNat {lo hi : BitVec 6} (h : lo.toNat ≤ hi.toNat) (v : BitVec 6) :
    (clampTo lo hi v).toNat = min hi.toNat (max lo.toNat v.toNat) := by
  unfold clampTo
  simp only [BitVec.lt_def]
  split
  next below => omega
  next notBelow => split <;> omega

theorem modeWith_withMode (hd : Half) (g : Staging) : (g.withMode hd).modeWith 0#1 = hd &&& 0x7F7F#16 :=
  masked_half (by
    simp only [Staging.modeWith, modeFields, Staging.withMode, field_append, bit_getLsbD, idx8_val]
    simp [field_extractLsb', ← BitVec.and_or_distrib_left]
    exact congrArg _ (by decide))

theorem wordA_withA (ld : Word) (g : Staging) : (g.withA ld).wordA = ld &&& 0xFF7FFFFF#32 := by
  rw [wordA_fields]
  simp only [Staging.modeWith, modeFields, Staging.withA, field_append, bit_getLsbD, idx8_val]
  simp [field_extractLsb', ← BitVec.and_or_distrib_left]
  exact congrArg _ (by decide)

/-! ### The staging registers of both windows (Table 10-3) -/

section

variable (s : State)

theorem hostWord_stagePage : s.hostWord 0x20#6 = s.table.hostStage.size ++ s.table.hostStage.page :=
  (congrArg pageOfA (wordA_halves s.table.hostStage)).trans (pageOfA_append _ _)

theorem hostWord_stageBaseLow : s.hostWord 0x21#6 = s.table.hostStage.base.extractLsb' 0 16 :=
  (congrArg baseLow (field_base _)).trans (baseLow_append _)

theorem hostWord_stageBaseHigh : s.hostWord 0x22#6 = 0#12 ++ s.table.hostStage.base.extractLsb' 16 4 :=
  (congrArg baseHigh (field_base _)).trans (baseHigh_append _)

theorem hostWord_stageMode : s.hostWord 0x23#6 = s.table.hostStage.modeWith 0#1 :=
  (congrArg (modeOfA · &&& 0x7FFF#16) (wordA_halves s.table.hostStage)).trans
    ((congrArg (· &&& 0x7FFF#16) (modeOfA_append _ _)).trans (modeWith_masked _ _))

theorem stagePage_withPage (hd : Half) (g : Staging) :
    (g.withPage hd).size ++ (g.withPage hd).page = hd &&& 0xFFFF#16 :=
  (BitVec.extractLsb'_append_extractLsb'_eq_extractLsb' rfl).trans
    (BitVec.extractLsb'_eq_self.trans BitVec.and_allOnes.symm)

theorem stageBaseLow_withBaseLow (hd : Half) (g : Staging) :
    (g.withBaseLow hd).base.extractLsb' 0 16 = hd &&& 0xFFFF#16 :=
  BitVec.extractLsb'_append_eq_right.trans BitVec.and_allOnes.symm

theorem stageBaseHigh_withBaseLow (hd : Half) (g : Staging) :
    (g.withBaseLow hd).base.extractLsb' 16 4 = g.base.extractLsb' 16 4 :=
  BitVec.extractLsb'_append_eq_left

theorem stageBaseLow_withBaseHigh (hd : Half) (g : Staging) :
    (g.withBaseHigh hd).base.extractLsb' 0 16 = g.base.extractLsb' 0 16 :=
  BitVec.extractLsb'_append_eq_right

theorem stageBaseHigh_withBaseHigh (hd : Half) (g : Staging) :
    0#12 ++ (g.withBaseHigh hd).base.extractLsb' 16 4 = hd &&& 0x000F#16 :=
  have low : (g.withBaseHigh hd).base.extractLsb' 16 4 = hd.setWidth 4 :=
    BitVec.extractLsb'_append_eq_left.trans (BitVec.setWidth_eq_extractLsb' (by decide)).symm
  (congrArg (0#12 ++ ·) low).trans ((setWidth_eq_zero_append _ 12).symm.trans (setWidth_setWidth_low 4 hd))

theorem field_zero_eq {n : Nat} (v : BitVec n) : field 0 v = v.setWidth 32 := BitVec.shiftLeft_zero _

theorem base_withBase (ld : Word) (g : Staging) : field 12 (g.withBase ld).base = ld &&& 0xFFFFF000#32 :=
  (field_extractLsb' 12 20 ld).trans (congrArg₂ (· &&& ·) (BitVec.setWidth_eq ld) (by decide))

theorem low_bits (n : Nat) {w : Nat} (h : n ≤ w) (v : BitVec w) :
    (v.extractLsb' 0 n).setWidth w = v &&& (BitVec.allOnes n).setWidth w :=
  (congrArg (BitVec.setWidth w) (BitVec.setWidth_eq_extractLsb' h).symm).trans (setWidth_setWidth_low n v)

/-- A View selection reads back its three bits (R4). -/
theorem viewIndex_half (d : BitVec 3) : 0#13 ++ BitVec.ofNat 3 (idx8 d).val = d.setWidth 16 :=
  (congrArg (0#13 ++ ·) (idx8_val d)).trans (setWidth_eq_zero_append d 13).symm

theorem viewIndex_word (d : BitVec 3) : 0#29 ++ BitVec.ofNat 3 (idx8 d).val = d.setWidth 32 :=
  (congrArg (0#29 ++ ·) (idx8_val d)).trans (setWidth_eq_zero_append d 29).symm

end

/-- A host register reads alike in two states that agree on it. -/
theorem hostRegisterRead_congr {s t : State} (hp : t.pins.pon = s.pins.pon) {reg : BitVec 6}
    (h : t.hostWord reg = s.hostWord reg) (st : Strobes) : hostRegisterRead t reg st = hostRegisterRead s reg st := by
  unfold hostRegisterRead
  rw [hp, h]

theorem localRegisterRead_congr {s t : State} (hl : t.localOpen = s.localOpen) {reg : BitVec 6}
    (h : t.localWord reg = s.localWord reg) : localRegisterRead t reg = localRegisterRead s reg := by
  unfold localRegisterRead
  rw [hl, h]

/-- A host write that does not drive the whole register is ignored (R175). -/
theorem hostWindowWrite_partial {reg : BitVec 6} {st : Strobes} (hst : bothStrobes st = false) (hreg : reg ≠ 0x30#6)
    (hd : Half) (s : State) : s.hostWindowWrite reg st hd = s := by
  have notStream : 2 * reg.toNat ≠ 0x60 :=
    fun offset => hreg (List.mem_singleton.mp (mem_of_offset (by decide) offset (by decide)))
  unfold State.hostWindowWrite
  rw [if_neg notStream, hst]
  rfl

theorem localWindowWrite_partial {reg : BitVec 6} {lbe : BitVec 4} (h : lbe ≠ 0xF#4) (ld : Word) (s : State) :
    s.localWindowWrite reg lbe ld = s := if_neg h

/-- Settles O50: each stored register by the bits that its write keeps, each other one by the layout of its fields. -/
theorem storedRegistersReadBack : Obligations.StoredRegistersReadBack := by
  unfold Obligations.StoredRegistersReadBack
  refine ⟨fun hd ld s => ⟨?hostStored, ?localStored⟩, fun s => ⟨?hostReads, ?localReads, ?codes⟩⟩
  case hostStored =>
    intro can
    have write (reg : BitVec 6) := exec_hostHalfword can reg hd
    have read {t : State} {reg : BitVec 6} {v : Half} (hp : t.pins.pon = s.pins.pon) (h : t.hostWord reg = v) :
        hostRegisterRead t reg { hlb := true, hub := true } = v :=
      (hostRegisterRead_whole (hp.trans can.1) reg).trans h
    have kept {t : State} {reg : BitVec 6} (hp : t.pins.pon = s.pins.pon) (h : t.hostWord reg = s.hostWord reg) :
        hostRegisterRead t reg { hlb := true, hub := true } = hostRegisterRead s reg { hlb := true, hub := true } :=
      hostRegisterRead_congr hp h _
    refine ⟨?staging, ?view, ?enable, ?stall, ?inThreshold, ?outThreshold, ?ignored⟩
    case staging =>
      simp only [List.forall_mem_cons, List.not_mem_nil, false_implies, implies_true, and_true]
      refine ⟨⟨_, write 0x20, read rfl ?_, rfl, ⟨absurd rfl, fun _ => kept rfl rfl, fun _ => kept rfl rfl,
          fun _ => kept rfl ?_⟩, rfl⟩,
        ⟨_, write 0x21, read rfl ?_, rfl, ⟨fun _ => kept rfl rfl, absurd rfl, fun _ => kept rfl ?_,
          fun _ => kept rfl rfl⟩, rfl⟩,
        ⟨_, write 0x22, read rfl ?_, rfl, ⟨fun _ => kept rfl rfl, fun _ => kept rfl ?_, absurd rfl,
          fun _ => kept rfl rfl⟩, rfl⟩,
        ⟨_, write 0x23, read rfl ?_, rfl, ⟨fun _ => kept rfl ?_, fun _ => kept rfl rfl, fun _ => kept rfl rfl,
          absurd rfl⟩, rfl⟩⟩
      · exact (hostWord_stagePage _).trans (stagePage_withPage hd _)
      · exact (hostWord_stageMode _).trans (hostWord_stageMode s).symm
      · exact (hostWord_stageBaseLow _).trans (stageBaseLow_withBaseLow hd _)
      · exact (hostWord_stageBaseHigh _).trans
          ((congrArg (0#12 ++ ·) (stageBaseHigh_withBaseLow hd _)).trans (hostWord_stageBaseHigh s).symm)
      · exact (hostWord_stageBaseHigh _).trans (stageBaseHigh_withBaseHigh hd _)
      · exact (hostWord_stageBaseLow _).trans
          ((stageBaseLow_withBaseHigh hd _).trans (hostWord_stageBaseLow s).symm)
      · exact (hostWord_stageMode _).trans (modeWith_withMode hd _)
      · exact (hostWord_stagePage _).trans (hostWord_stagePage s).symm
    case view =>
      have bits := (viewIndex_half _).trans (low_bits 3 (by decide) hd)
      exact ⟨_, write 0x25, read rfl ((hostWord_hostView _).trans bits), rfl, rfl⟩
    case enable =>
      exact ⟨_, congrArg Host.Outcome.next (hostWrite_taken can _), read rfl (setWidth_setWidth_low 9 hd), rfl, rfl,
        rfl⟩
    case stall =>
      exact ⟨_, congrArg Host.Outcome.next (hostWrite_taken can _), read rfl (setWidth_setWidth_low 12 hd), rfl, rfl,
        rfl⟩
    case inThreshold =>
      exact ⟨_, write 0x34, (clampTo_toNat (by decide) _).trans (congrArg (min 32 <| max 2 ·) (by simp))⟩
    case outThreshold =>
      exact ⟨_, write 0x35, (clampTo_toNat (by decide) _).trans (congrArg (min 32 <| max 1 ·) (by simp))⟩
    case ignored =>
      intro reg st partialWrite notStream
      exact (exec_hostWindowWrite ..).trans (congrArg Host.Outcome.next
        ((hostWrite_taken can _).trans (hostWindowWrite_partial partialWrite notStream hd _)))
  case localStored =>
    intro can
    have isOpen : s.localOpen = true := by simp [State.localOpen, can.1, can.2]
    have write (reg : BitVec 6) := exec_localWord can reg ld
    have limit : ld.setWidth 8 = ld.extractLsb' 0 8 := BitVec.setWidth_eq_extractLsb' (by decide)
    have read {t : State} {reg : BitVec 6} {v : Word} (hl : t.localOpen = s.localOpen) (h : t.localWord reg = v) :
        localRegisterRead t reg = v :=
      (if_pos (hl.trans isOpen)).trans h
    have kept {t : State} {reg : BitVec 6} (hl : t.localOpen = s.localOpen) (h : t.localWord reg = s.localWord reg) :
        localRegisterRead t reg = localRegisterRead s reg := localRegisterRead_congr hl h
    refine ⟨?staging, ?view, ?mask, ?answerLimit, ?ackLimit, ?ackKept, ?ignored⟩
    case staging =>
      simp only [List.forall_mem_cons, List.not_mem_nil, false_implies, implies_true, and_true]
      exact ⟨⟨_, write 0x12, read rfl (wordA_withA ld _), ⟨absurd rfl, fun _ => kept rfl rfl⟩, rfl⟩,
        ⟨_, write 0x13, read rfl (base_withBase ld _), ⟨fun _ => kept rfl rfl, absurd rfl⟩, rfl⟩⟩
    case view =>
      exact ⟨_, write 0x15, read rfl ((localWord_view _).trans ((viewIndex_word _).trans (low_bits 3 (by decide) ld))),
        rfl⟩
    case mask =>
      exact ⟨_, congrArg Host.Outcome.next (localWrite_taken can _),
        read rfl ((field_zero_eq _).trans (setWidth_setWidth_low 12 ld)), rfl⟩
    case answerLimit =>
      exact ⟨_, write 0x09, read rfl ((field_zero_eq _).trans (low_bits 8 (by decide) ld)), rfl⟩
    case ackLimit =>
      intro nonzero
      exact ⟨_, (write 0x1B).trans (congrArg Host.Outcome.next (if_neg (limit ▸ nonzero))),
        read rfl ((field_zero_eq _).trans (low_bits 8 (by decide) ld)), rfl⟩
    case ackKept =>
      intro zero
      exact (write 0x1B).trans (congrArg Host.Outcome.next (if_pos (limit ▸ zero)))
    case ignored =>
      intro reg lbe partialWrite
      exact (exec_localWindowWrite ..).trans (congrArg Host.Outcome.next
        ((localWrite_taken can _).trans (localWindowWrite_partial partialWrite ld s)))
  case hostReads =>
    intro running
    have read {reg : BitVec 6} {v : Half} (h : s.hostWord reg = v) :
        hostRegisterRead s reg { hlb := true, hub := true } = v := (hostRegisterRead_whole running reg).trans h
    refine ⟨?bytes, read (hostWord_status s), read (hostWord_moduleReset s), read (hostWord_powerLow s),
      read (setWidth_eq_zero_append _ 7), read (setWidth_eq_zero_append _ 4), ?settings, read (resultWord_half _),
      read (resultWord_half _), read (resultWord_half _), read (resultWord_half _), ?noFault, ?fault,
      fun few => read (hostWord_faultCount s few), ?noNote, ?note, fun few => read (hostWord_noteStatus s few),
      read (hostWord_stagePage s), read (hostWord_stageBaseLow s), read (hostWord_stageBaseHigh s),
      read (hostWord_stageMode s), read (hostWord_hostView s), ?emptyView, ?liveView, read (hostWord_streamStatus s),
      fun few => read (hostWord_levels s few), read (hostWord_messageLength s), read (setWidth_eq_zero_append _ 10),
      read (setWidth_eq_zero_append _ 10), fun reg unused => read (hostWord_unused s unused)⟩
    case bytes =>
      intro reg _
      simp [hostRegisterRead, running, bothStrobes]
    case settings =>
      simp only [List.forall_mem_cons, List.not_mem_nil, false_implies, implies_true, and_true]
      exact ⟨⟨read (setWidth_eq_zero_append _ 12), read (status_layout _)⟩,
        ⟨read (setWidth_eq_zero_append _ 12), read (status_layout _)⟩,
        ⟨read (setWidth_eq_zero_append _ 12), read (status_layout _)⟩,
        ⟨read (setWidth_eq_zero_append _ 12), read (status_layout _)⟩⟩
    case noFault =>
      intro empty
      obtain ⟨info, presence, host, loc⟩ := noFaultHead empty
      simp only [List.forall_mem_cons, List.not_mem_nil, false_implies, implies_true, and_true]
      exact ⟨read (congrArg (fun w : Word => (w.extractLsb' 0 12).setWidth 16) info),
        read (congrArg (BitVec.setWidth 16) presence),
        read (congrArg (fun w : Word => (w.extractLsb' 16 12).setWidth 16) info),
        read (congrArg (BitVec.extractLsb' 0 16) host), read (congrArg (BitVec.extractLsb' 16 16) host),
        read (congrArg (BitVec.extractLsb' 0 16) loc), read (congrArg (BitVec.extractLsb' 16 16) loc)⟩
    case fault =>
      intro f rest head
      obtain ⟨info, presence, host, loc⟩ := faultHead head
      exact ⟨read ((congrArg (fun w : Word => (w.extractLsb' 0 12).setWidth 16) info).trans (info_low f)),
        read ((congrArg (BitVec.setWidth 16) presence).trans (setWidth_eq_zero_append _ 9)),
        read ((congrArg (fun w : Word => (w.extractLsb' 16 12).setWidth 16) info).trans (info_high f)),
        read ((congrArg (BitVec.extractLsb' 0 16) host).trans (BitVec.extractLsb'_setWidth_of_le (by decide))),
        read ((congrArg (BitVec.extractLsb' 16 16) host).trans (hostAddress_high _)),
        read (congrArg (BitVec.extractLsb' 0 16) loc), read (congrArg (BitVec.extractLsb' 16 16) loc)⟩
    case noNote => exact fun empty => read (congrArg (List.headD · 0) empty)
    case note => exact fun n rest head => read (congrArg (List.headD · 0) head)
    case emptyView =>
      intro empty
      simp only [List.forall_mem_cons, List.not_mem_nil, false_implies, implies_true, and_true]
      exact ⟨read ((congrArg modeOfA (viewA_empty_halves empty)).trans (modeOfA_append _ _)),
        read ((congrArg pageOfA (viewA_empty_halves empty)).trans (pageOfA_append _ _)),
        read (congrArg baseLow (viewBase_empty empty)), read (congrArg baseHigh (viewBase_empty empty)),
        read (congrArg (BitVec.extractLsb' 0 16) (viewCounts_empty empty)),
        read (congrArg (BitVec.extractLsb' 16 16) (viewCounts_empty empty))⟩
    case liveView =>
      intro l live
      exact ⟨read ((congrArg pageOfA (viewA_halves live)).trans (pageOfA_append _ _)),
        read ((congrArg baseLow (viewBase_live live)).trans (baseLow_append _)),
        read ((congrArg baseHigh (viewBase_live live)).trans (baseHigh_append _)),
        read ((congrArg modeOfA (viewA_halves live)).trans (modeOfA_append _ _)),
        read ((congrArg (BitVec.extractLsb' 0 16) (viewCounts_layout live)).trans BitVec.extractLsb'_append_eq_right),
        read ((congrArg (BitVec.extractLsb' 16 16) (viewCounts_layout live)).trans BitVec.extractLsb'_append_eq_left)⟩
  case localReads =>
    intro can
    have read {reg : BitVec 6} {v : Word} (h : s.localWord reg = v) : localRegisterRead s reg = v :=
      (localRegisterRead_open can reg).trans h
    refine ⟨read (localWord_status s), read (localWord_power s), read (localWord_reset s), read (localWord_notices s),
      read (localWord_direct s), read (localWord_accepted s), fun empty => read (proposalHead_none s empty),
      fun p rest head few i hi => read (proposalHead_some s head few hi), read (resultWord_plain _),
      read (field_low_byte _), read (localWord_events s), read (localWord_mask s), read (resultWord_plain _), ?noFault,
      ?fault, ?faultState, read (wordA_layout _), read (field_base _), read (resultWord_plain _),
      read (localWord_view s), ?emptyView, ?liveView, read (resultWord_plain _), read (field_low_byte _),
      read (field_low_byte _), read (field_low_byte _), read (flag_low _), read (field_byte_base _),
      read (field_byte_base _), read (localWord_inConfig s), read (localWord_outConfig s), ?indices,
      read (resultWord_plain _), fun marks boundaries => read (localWord_streamState s marks boundaries),
      fun empty => ⟨read (localWord_noBoundary s empty).1, read (localWord_noBoundary s empty).2⟩,
      fun b rest head hend hlen => ⟨read (localWord_boundary s head hend), read (localWord_boundaryLength s head hlen)⟩,
      fun empty => read (localWord_noMark s empty), fun m rest head hm => read (localWord_mark s head hm),
      fun few => read (localWord_noteState s few), fun reg unused => read (localWord_unused s unused)⟩
    case noFault =>
      intro empty
      obtain ⟨info, presence, host, loc⟩ := noFaultHead empty
      simp only [List.forall_mem_cons, List.not_mem_nil, false_implies, implies_true, and_true]
      exact ⟨read info, read host, read loc⟩
    case fault =>
      intro f rest head
      obtain ⟨info, presence, host, loc⟩ := faultHead head
      exact ⟨read (info.trans (info_layout f)), read (host.trans (setWidth_eq_zero_append _ 8)), read loc⟩
    case faultState => exact fun few => read (localWord_faultState s few)
    case emptyView =>
      exact fun empty => ⟨read (viewA_empty empty), read (viewBase_empty empty), read (viewCounts_empty empty)⟩
    case liveView =>
      exact fun l live => ⟨read (viewA_layout live), read (viewBase_live live), read (viewCounts_layout live)⟩
    case indices =>
      simp only [List.forall_mem_cons, List.not_mem_nil, false_implies, implies_true, and_true]
      exact ⟨fun h => read (count_index h), fun h => read (count_index h), fun h => read (count_index h),
        fun h => read (count_index h), fun h => read (count_index h)⟩
  case codes => exact ⟨rfl, rfl, rfl, rfl, rfl, rfl, rfl, rfl, rfl, rfl, rfl, rfl⟩

end Sys2Proof.Machine
